-- ==== Sys2Proof/Word.lean ====
section
/-! DEFINITION. The machine's two widths (00_scope.md R9, R10): 8-bit bytes and 16-bit words. -/

namespace Sys2Proof

/-- An 8-bit value: a register, a byte of memory, an immediate byte. -/
abbrev Byte := BitVec 8

/-- A 16-bit value: an address, `SP`, `PC`, a register pair. -/
abbrev Word := BitVec 16

end Sys2Proof
end

