-- ==== Sys2Proof/Machine/Bits.lean ====
section
/-! DEFINITION. Bit-field, sign-extension and byte-order helpers (00_scope.md R9), used by the
decoder, the encoder and the machine. -/

namespace Sys2Proof.Machine

/-- `v[15:8]`. -/
def hiByte (v : Word) : Byte := v.extractLsb' 8 8

/-- `v[7:0]`. -/
def loByte (v : Word) : Byte := v.extractLsb' 0 8

/-- `hi ++ lo` (R9): `hi` becomes bits 15:8. -/
def mkWord (hi lo : Byte) : Word := hi ++ lo

/-- `sext_16(v)` (R9). -/
def sext16 (v : Byte) : Word := v.signExtend 16

/-- `zext_16(v)` (R9). -/
def zext16 (v : Byte) : Word := v.setWidth 16

/-- Bit `i` of a byte, `v[i]` (R9). -/
def bitOf (v : Byte) (i : Nat) : Bool := v.getLsbD i

/-- `1 << i` as a byte. -/
def bitMask (i : Nat) : Byte := 1#8 <<< i

/-- `v | (1 << i)`. -/
def setBit (v : Byte) (i : Nat) : Byte := v ||| bitMask i

/-- `v & ~(1 << i)`. -/
def clearBit (v : Byte) (i : Nat) : Byte := v &&& ~~~(bitMask i)

/-- A byte with one bit of value `b` in place 0. -/
def bit0 (b : Bool) : Byte := if b then 1#8 else 0#8

end Sys2Proof.Machine
end

