-- ==== Sys2Proof/WellFormed.lean ====
section
/-! DEFINITION. What is well-formed: an instruction as a term, and a byte sequence as the encoding
of one instruction (30_encoding.md R69, R71). -/

namespace Sys2Proof

/-- Every term of `Instr` is well-formed: its operands are typed by their encoded widths and the spec
makes every value of every operand legal (R82: no reserved encodings; R88 "all 256 values of `n8` are
legal"; R108 "any value is legal"; R192: `STOP`'s second byte is any byte). What can be ill-formed is
a byte sequence: `bytesWellFormed`. -/
def Instr.wellFormed (_ : Instr) : Bool := true

/-- The first bytes of three-byte instructions (R71, `OP_N16`). -/
def firstBytesOfLength3 : List Byte :=
  [0x01, 0x11, 0x21, 0x31, 0x08, 0xC2, 0xCA, 0xD2, 0xDA, 0xC3, 0xC4, 0xCC, 0xD4, 0xDC, 0xCD,
   0xEA, 0xFA]

/-- The first bytes of two-byte instructions (R71), the prefix 0xCB among them. -/
def firstBytesOfLength2 : List Byte :=
  [0x06, 0x0E, 0x16, 0x1E, 0x26, 0x2E, 0x36, 0x3E, 0x10, 0x18, 0x20, 0x28, 0x30, 0x38] ++
  [0xC6, 0xCE, 0xD6, 0xDE, 0xE6, 0xEE, 0xF6, 0xFE, 0xE0, 0xF0, 0xE8, 0xF8, 0xCB]

/-- Instruction length by first byte (R71): "a function of the first byte alone" (R69). -/
def lengthByFirstByte (b0 : Byte) : Nat :=
  if firstBytesOfLength3.contains b0 then 3
  else if firstBytesOfLength2.contains b0 then 2
  else 1

/-- A byte sequence is the encoding of exactly one instruction: it is not empty and has the length its
first byte asks for (R69, R71). Bytes that are missing or left over are refused. -/
def bytesWellFormed : List Byte → Bool
  | [] => false
  | b0 :: rest => rest.length + 1 == lengthByFirstByte b0

end Sys2Proof
end

