-- ==== Sys2Proof/Decode.lean ====
section
/-! DEFINITION. The decoder, written from the field tables of 30_encoding.md (R70, R72 to R81), and
after it the encoder, written from the opcode grids of R80 and R81. Every first byte and every byte
after 0xCB decodes to an instruction (R82, R86); only a byte sequence that ends too early is rejected,
by name. -/

namespace Sys2Proof

open Machine (hiByte loByte mkWord)

/-! ## Families: the instruction an operation and its operands name -/

/-- `LD r,r'` (R87). -/
def Instr.ldRegReg : Reg8 → Reg8 → Instr
  | .b, .b => .ld_b_b | .b, .c => .ld_b_c | .b, .d => .ld_b_d | .b, .e => .ld_b_e
  | .b, .h => .ld_b_h | .b, .l => .ld_b_l | .b, .a => .ld_b_a | .c, .b => .ld_c_b
  | .c, .c => .ld_c_c | .c, .d => .ld_c_d | .c, .e => .ld_c_e | .c, .h => .ld_c_h
  | .c, .l => .ld_c_l | .c, .a => .ld_c_a | .d, .b => .ld_d_b | .d, .c => .ld_d_c
  | .d, .d => .ld_d_d | .d, .e => .ld_d_e | .d, .h => .ld_d_h | .d, .l => .ld_d_l
  | .d, .a => .ld_d_a | .e, .b => .ld_e_b | .e, .c => .ld_e_c | .e, .d => .ld_e_d
  | .e, .e => .ld_e_e | .e, .h => .ld_e_h | .e, .l => .ld_e_l | .e, .a => .ld_e_a
  | .h, .b => .ld_h_b | .h, .c => .ld_h_c | .h, .d => .ld_h_d | .h, .e => .ld_h_e
  | .h, .h => .ld_h_h | .h, .l => .ld_h_l | .h, .a => .ld_h_a | .l, .b => .ld_l_b
  | .l, .c => .ld_l_c | .l, .d => .ld_l_d | .l, .e => .ld_l_e | .l, .h => .ld_l_h
  | .l, .l => .ld_l_l | .l, .a => .ld_l_a | .a, .b => .ld_a_b | .a, .c => .ld_a_c
  | .a, .d => .ld_a_d | .a, .e => .ld_a_e | .a, .h => .ld_a_h | .a, .l => .ld_a_l
  | .a, .a => .ld_a_a

/-- `LD r,n8` (R88). -/
def Instr.ldRegImm : Reg8 → Byte → Instr
  | .b, n => .ld_b_n8 n | .c, n => .ld_c_n8 n | .d, n => .ld_d_n8 n | .e, n => .ld_e_n8 n
  | .h, n => .ld_h_n8 n | .l, n => .ld_l_n8 n | .a, n => .ld_a_n8 n

/-- `LD r,(HL)` (R89). -/
def Instr.ldRegMem : Reg8 → Instr
  | .b => .ld_b_mhl | .c => .ld_c_mhl | .d => .ld_d_mhl | .e => .ld_e_mhl | .h => .ld_h_mhl
  | .l => .ld_l_mhl | .a => .ld_a_mhl

/-- `LD (HL),r` (R90). -/
def Instr.ldMemReg : Reg8 → Instr
  | .b => .ld_mhl_b | .c => .ld_mhl_c | .d => .ld_mhl_d | .e => .ld_mhl_e | .h => .ld_mhl_h
  | .l => .ld_mhl_l | .a => .ld_mhl_a

/-- `LD rr,n16` (R108). -/
def Instr.ldPairImm : Pair → Word → Instr
  | .bc, n => .ld_bc_n16 n | .de, n => .ld_de_n16 n | .hl, n => .ld_hl_n16 n
  | .sp, n => .ld_sp_n16 n

/-- `PUSH qq` (R112). -/
def Instr.push : StackPair → Instr
  | .bc => .push_bc | .de => .push_de | .hl => .push_hl | .af => .push_af

/-- `POP qq` (R113, R114). -/
def Instr.pop : StackPair → Instr
  | .bc => .pop_bc | .de => .pop_de | .hl => .pop_hl | .af => .pop_af

/-- ALU operation on `A` with a register (R117 to R138). -/
def Instr.aluReg : AluOp → Reg8 → Instr
  | .add, .b => .add_a_b | .add, .c => .add_a_c | .add, .d => .add_a_d | .add, .e => .add_a_e
  | .add, .h => .add_a_h | .add, .l => .add_a_l | .add, .a => .add_a_a | .adc, .b => .adc_a_b
  | .adc, .c => .adc_a_c | .adc, .d => .adc_a_d | .adc, .e => .adc_a_e | .adc, .h => .adc_a_h
  | .adc, .l => .adc_a_l | .adc, .a => .adc_a_a | .sub, .b => .sub_a_b | .sub, .c => .sub_a_c
  | .sub, .d => .sub_a_d | .sub, .e => .sub_a_e | .sub, .h => .sub_a_h | .sub, .l => .sub_a_l
  | .sub, .a => .sub_a_a | .sbc, .b => .sbc_a_b | .sbc, .c => .sbc_a_c | .sbc, .d => .sbc_a_d
  | .sbc, .e => .sbc_a_e | .sbc, .h => .sbc_a_h | .sbc, .l => .sbc_a_l | .sbc, .a => .sbc_a_a
  | .and, .b => .and_a_b | .and, .c => .and_a_c | .and, .d => .and_a_d | .and, .e => .and_a_e
  | .and, .h => .and_a_h | .and, .l => .and_a_l | .and, .a => .and_a_a | .xor, .b => .xor_a_b
  | .xor, .c => .xor_a_c | .xor, .d => .xor_a_d | .xor, .e => .xor_a_e | .xor, .h => .xor_a_h
  | .xor, .l => .xor_a_l | .xor, .a => .xor_a_a | .or, .b => .or_a_b | .or, .c => .or_a_c
  | .or, .d => .or_a_d | .or, .e => .or_a_e | .or, .h => .or_a_h | .or, .l => .or_a_l
  | .or, .a => .or_a_a | .cp, .b => .cp_a_b | .cp, .c => .cp_a_c | .cp, .d => .cp_a_d
  | .cp, .e => .cp_a_e | .cp, .h => .cp_a_h | .cp, .l => .cp_a_l | .cp, .a => .cp_a_a

/-- ALU operation on `A` with the byte at `HL` (R118 to R139). -/
def Instr.aluMem : AluOp → Instr
  | .add => .add_a_mhl | .adc => .adc_a_mhl | .sub => .sub_a_mhl | .sbc => .sbc_a_mhl
  | .and => .and_a_mhl | .xor => .xor_a_mhl | .or => .or_a_mhl | .cp => .cp_a_mhl

/-- ALU operation on `A` with an immediate (R119 to R140). -/
def Instr.aluImm : AluOp → Byte → Instr
  | .add, n => .add_a_n8 n | .adc, n => .adc_a_n8 n | .sub, n => .sub_a_n8 n
  | .sbc, n => .sbc_a_n8 n | .and, n => .and_a_n8 n | .xor, n => .xor_a_n8 n
  | .or, n => .or_a_n8 n | .cp, n => .cp_a_n8 n

/-- `INC r` (R141). -/
def Instr.incReg : Reg8 → Instr
  | .b => .inc_b | .c => .inc_c | .d => .inc_d | .e => .inc_e | .h => .inc_h | .l => .inc_l
  | .a => .inc_a

/-- `DEC r` (R143). -/
def Instr.decReg : Reg8 → Instr
  | .b => .dec_b | .c => .dec_c | .d => .dec_d | .e => .dec_e | .h => .dec_h | .l => .dec_l
  | .a => .dec_a

/-- `ADD HL,rr` (R149). -/
def Instr.addHl : Pair → Instr
  | .bc => .add_hl_bc | .de => .add_hl_de | .hl => .add_hl_hl | .sp => .add_hl_sp

/-- `INC rr` (R150). -/
def Instr.incPair : Pair → Instr
  | .bc => .inc_bc | .de => .inc_de | .hl => .inc_hl | .sp => .inc_sp

/-- `DEC rr` (R151). -/
def Instr.decPair : Pair → Instr
  | .bc => .dec_bc | .de => .dec_de | .hl => .dec_hl | .sp => .dec_sp

/-- Extended rotate or shift of a register (R157 to R171). -/
def Instr.rotReg : RotOp → Reg8 → Instr
  | .rlc, .b => .rlc_b | .rlc, .c => .rlc_c | .rlc, .d => .rlc_d | .rlc, .e => .rlc_e
  | .rlc, .h => .rlc_h | .rlc, .l => .rlc_l | .rlc, .a => .rlc_a | .rrc, .b => .rrc_b
  | .rrc, .c => .rrc_c | .rrc, .d => .rrc_d | .rrc, .e => .rrc_e | .rrc, .h => .rrc_h
  | .rrc, .l => .rrc_l | .rrc, .a => .rrc_a | .rl, .b => .rl_b | .rl, .c => .rl_c
  | .rl, .d => .rl_d | .rl, .e => .rl_e | .rl, .h => .rl_h | .rl, .l => .rl_l | .rl, .a => .rl_a
  | .rr, .b => .rr_b | .rr, .c => .rr_c | .rr, .d => .rr_d | .rr, .e => .rr_e | .rr, .h => .rr_h
  | .rr, .l => .rr_l | .rr, .a => .rr_a | .sla, .b => .sla_b | .sla, .c => .sla_c
  | .sla, .d => .sla_d | .sla, .e => .sla_e | .sla, .h => .sla_h | .sla, .l => .sla_l
  | .sla, .a => .sla_a | .sra, .b => .sra_b | .sra, .c => .sra_c | .sra, .d => .sra_d
  | .sra, .e => .sra_e | .sra, .h => .sra_h | .sra, .l => .sra_l | .sra, .a => .sra_a
  | .swap, .b => .swap_b | .swap, .c => .swap_c | .swap, .d => .swap_d | .swap, .e => .swap_e
  | .swap, .h => .swap_h | .swap, .l => .swap_l | .swap, .a => .swap_a | .srl, .b => .srl_b
  | .srl, .c => .srl_c | .srl, .d => .srl_d | .srl, .e => .srl_e | .srl, .h => .srl_h
  | .srl, .l => .srl_l | .srl, .a => .srl_a

/-- Extended rotate or shift of the byte at `HL` (R158 to R172). -/
def Instr.rotMem : RotOp → Instr
  | .rlc => .rlc_mhl | .rrc => .rrc_mhl | .rl => .rl_mhl | .rr => .rr_mhl | .sla => .sla_mhl
  | .sra => .sra_mhl | .swap => .swap_mhl | .srl => .srl_mhl

/-- `BIT b,r` (R173). -/
def Instr.bitReg : Num8 → Reg8 → Instr
  | .n0, .b => .bit_0_b | .n0, .c => .bit_0_c | .n0, .d => .bit_0_d | .n0, .e => .bit_0_e
  | .n0, .h => .bit_0_h | .n0, .l => .bit_0_l | .n0, .a => .bit_0_a | .n1, .b => .bit_1_b
  | .n1, .c => .bit_1_c | .n1, .d => .bit_1_d | .n1, .e => .bit_1_e | .n1, .h => .bit_1_h
  | .n1, .l => .bit_1_l | .n1, .a => .bit_1_a | .n2, .b => .bit_2_b | .n2, .c => .bit_2_c
  | .n2, .d => .bit_2_d | .n2, .e => .bit_2_e | .n2, .h => .bit_2_h | .n2, .l => .bit_2_l
  | .n2, .a => .bit_2_a | .n3, .b => .bit_3_b | .n3, .c => .bit_3_c | .n3, .d => .bit_3_d
  | .n3, .e => .bit_3_e | .n3, .h => .bit_3_h | .n3, .l => .bit_3_l | .n3, .a => .bit_3_a
  | .n4, .b => .bit_4_b | .n4, .c => .bit_4_c | .n4, .d => .bit_4_d | .n4, .e => .bit_4_e
  | .n4, .h => .bit_4_h | .n4, .l => .bit_4_l | .n4, .a => .bit_4_a | .n5, .b => .bit_5_b
  | .n5, .c => .bit_5_c | .n5, .d => .bit_5_d | .n5, .e => .bit_5_e | .n5, .h => .bit_5_h
  | .n5, .l => .bit_5_l | .n5, .a => .bit_5_a | .n6, .b => .bit_6_b | .n6, .c => .bit_6_c
  | .n6, .d => .bit_6_d | .n6, .e => .bit_6_e | .n6, .h => .bit_6_h | .n6, .l => .bit_6_l
  | .n6, .a => .bit_6_a | .n7, .b => .bit_7_b | .n7, .c => .bit_7_c | .n7, .d => .bit_7_d
  | .n7, .e => .bit_7_e | .n7, .h => .bit_7_h | .n7, .l => .bit_7_l | .n7, .a => .bit_7_a

/-- `BIT b,(HL)` (R174). -/
def Instr.bitMem : Num8 → Instr
  | .n0 => .bit_0_mhl | .n1 => .bit_1_mhl | .n2 => .bit_2_mhl | .n3 => .bit_3_mhl
  | .n4 => .bit_4_mhl | .n5 => .bit_5_mhl | .n6 => .bit_6_mhl | .n7 => .bit_7_mhl

/-- `RES b,r` (R175). -/
def Instr.resReg : Num8 → Reg8 → Instr
  | .n0, .b => .res_0_b | .n0, .c => .res_0_c | .n0, .d => .res_0_d | .n0, .e => .res_0_e
  | .n0, .h => .res_0_h | .n0, .l => .res_0_l | .n0, .a => .res_0_a | .n1, .b => .res_1_b
  | .n1, .c => .res_1_c | .n1, .d => .res_1_d | .n1, .e => .res_1_e | .n1, .h => .res_1_h
  | .n1, .l => .res_1_l | .n1, .a => .res_1_a | .n2, .b => .res_2_b | .n2, .c => .res_2_c
  | .n2, .d => .res_2_d | .n2, .e => .res_2_e | .n2, .h => .res_2_h | .n2, .l => .res_2_l
  | .n2, .a => .res_2_a | .n3, .b => .res_3_b | .n3, .c => .res_3_c | .n3, .d => .res_3_d
  | .n3, .e => .res_3_e | .n3, .h => .res_3_h | .n3, .l => .res_3_l | .n3, .a => .res_3_a
  | .n4, .b => .res_4_b | .n4, .c => .res_4_c | .n4, .d => .res_4_d | .n4, .e => .res_4_e
  | .n4, .h => .res_4_h | .n4, .l => .res_4_l | .n4, .a => .res_4_a | .n5, .b => .res_5_b
  | .n5, .c => .res_5_c | .n5, .d => .res_5_d | .n5, .e => .res_5_e | .n5, .h => .res_5_h
  | .n5, .l => .res_5_l | .n5, .a => .res_5_a | .n6, .b => .res_6_b | .n6, .c => .res_6_c
  | .n6, .d => .res_6_d | .n6, .e => .res_6_e | .n6, .h => .res_6_h | .n6, .l => .res_6_l
  | .n6, .a => .res_6_a | .n7, .b => .res_7_b | .n7, .c => .res_7_c | .n7, .d => .res_7_d
  | .n7, .e => .res_7_e | .n7, .h => .res_7_h | .n7, .l => .res_7_l | .n7, .a => .res_7_a

/-- `RES b,(HL)` (R176). -/
def Instr.resMem : Num8 → Instr
  | .n0 => .res_0_mhl | .n1 => .res_1_mhl | .n2 => .res_2_mhl | .n3 => .res_3_mhl
  | .n4 => .res_4_mhl | .n5 => .res_5_mhl | .n6 => .res_6_mhl | .n7 => .res_7_mhl

/-- `SET b,r` (R177). -/
def Instr.setReg : Num8 → Reg8 → Instr
  | .n0, .b => .set_0_b | .n0, .c => .set_0_c | .n0, .d => .set_0_d | .n0, .e => .set_0_e
  | .n0, .h => .set_0_h | .n0, .l => .set_0_l | .n0, .a => .set_0_a | .n1, .b => .set_1_b
  | .n1, .c => .set_1_c | .n1, .d => .set_1_d | .n1, .e => .set_1_e | .n1, .h => .set_1_h
  | .n1, .l => .set_1_l | .n1, .a => .set_1_a | .n2, .b => .set_2_b | .n2, .c => .set_2_c
  | .n2, .d => .set_2_d | .n2, .e => .set_2_e | .n2, .h => .set_2_h | .n2, .l => .set_2_l
  | .n2, .a => .set_2_a | .n3, .b => .set_3_b | .n3, .c => .set_3_c | .n3, .d => .set_3_d
  | .n3, .e => .set_3_e | .n3, .h => .set_3_h | .n3, .l => .set_3_l | .n3, .a => .set_3_a
  | .n4, .b => .set_4_b | .n4, .c => .set_4_c | .n4, .d => .set_4_d | .n4, .e => .set_4_e
  | .n4, .h => .set_4_h | .n4, .l => .set_4_l | .n4, .a => .set_4_a | .n5, .b => .set_5_b
  | .n5, .c => .set_5_c | .n5, .d => .set_5_d | .n5, .e => .set_5_e | .n5, .h => .set_5_h
  | .n5, .l => .set_5_l | .n5, .a => .set_5_a | .n6, .b => .set_6_b | .n6, .c => .set_6_c
  | .n6, .d => .set_6_d | .n6, .e => .set_6_e | .n6, .h => .set_6_h | .n6, .l => .set_6_l
  | .n6, .a => .set_6_a | .n7, .b => .set_7_b | .n7, .c => .set_7_c | .n7, .d => .set_7_d
  | .n7, .e => .set_7_e | .n7, .h => .set_7_h | .n7, .l => .set_7_l | .n7, .a => .set_7_a

/-- `SET b,(HL)` (R178). -/
def Instr.setMem : Num8 → Instr
  | .n0 => .set_0_mhl | .n1 => .set_1_mhl | .n2 => .set_2_mhl | .n3 => .set_3_mhl
  | .n4 => .set_4_mhl | .n5 => .set_5_mhl | .n6 => .set_6_mhl | .n7 => .set_7_mhl

/-- `JP cc,a16` (R180). -/
def Instr.jpCond : Cond → Word → Instr
  | .nz, a => .jp_nz_a16 a | .z, a => .jp_z_a16 a | .nc, a => .jp_nc_a16 a | .c, a => .jp_c_a16 a

/-- `JR cc,e8` (R183). -/
def Instr.jrCond : Cond → Byte → Instr
  | .nz, e => .jr_nz_e8 e | .z, e => .jr_z_e8 e | .nc, e => .jr_nc_e8 e | .c, e => .jr_c_e8 e

/-- `CALL cc,a16` (R185). -/
def Instr.callCond : Cond → Word → Instr
  | .nz, a => .call_nz_a16 a | .z, a => .call_z_a16 a | .nc, a => .call_nc_a16 a
  | .c, a => .call_c_a16 a

/-- `RET cc` (R188). -/
def Instr.retCond : Cond → Instr
  | .nz => .ret_nz | .z => .ret_z | .nc => .ret_nc | .c => .ret_c

/-- `RST t`, target `8 * t` (R186). -/
def Instr.rst : Num8 → Instr
  | .n0 => .rst_00h | .n1 => .rst_08h | .n2 => .rst_10h | .n3 => .rst_18h | .n4 => .rst_20h
  | .n5 => .rst_28h | .n6 => .rst_30h | .n7 => .rst_38h

/-! ## Operand fields -/

/-- A 3-bit field from its bits, the highest first. -/
def num8 : Bool → Bool → Bool → Num8
  | false, false, false => .n0 | false, false, true => .n1
  | false, true, false => .n2 | false, true, true => .n3
  | true, false, false => .n4 | true, false, true => .n5
  | true, true, false => .n6 | true, true, true => .n7

/-- `y = byte[5:3]` (R69). -/
def fieldY (op : Byte) : Num8 := num8 (op.getLsbD 5) (op.getLsbD 4) (op.getLsbD 3)

/-- `z = byte[2:0]` (R69). -/
def fieldZ (op : Byte) : Num8 := num8 (op.getLsbD 2) (op.getLsbD 1) (op.getLsbD 0)

/-- The 8-bit-operand field (R72). -/
def operandOf : Num8 → Operand8
  | .n0 => .reg .b | .n1 => .reg .c | .n2 => .reg .d | .n3 => .reg .e
  | .n4 => .reg .h | .n5 => .reg .l | .n6 => .mhl | .n7 => .reg .a

/-- The ALU operation field (R76). -/
def aluOf : Num8 → AluOp
  | .n0 => .add | .n1 => .adc | .n2 => .sub | .n3 => .sbc
  | .n4 => .and | .n5 => .xor | .n6 => .or | .n7 => .cp

/-- The rotate/shift operation field (R77). -/
def rotOf : Num8 → RotOp
  | .n0 => .rlc | .n1 => .rrc | .n2 => .rl | .n3 => .rr
  | .n4 => .sla | .n5 => .sra | .n6 => .swap | .n7 => .srl

/-! ## The tables of R80 and R81 by fields -/

/-- Primary table, `x = 0` (R80). -/
def primaryX0 (y z : Num8) (b1 b2 : Byte) : Instr :=
  let n16 := mkWord b2 b1
  match z with
  | .n0 => match y with
    | .n0 => .nop | .n1 => .ld_ma16_sp n16 | .n2 => .stop b1 | .n3 => .jr_e8 b1
    | .n4 => .jrCond .nz b1 | .n5 => .jrCond .z b1 | .n6 => .jrCond .nc b1 | .n7 => .jrCond .c b1
  | .n1 => match y with
    | .n0 => .ldPairImm .bc n16 | .n1 => .addHl .bc | .n2 => .ldPairImm .de n16 | .n3 => .addHl .de
    | .n4 => .ldPairImm .hl n16 | .n5 => .addHl .hl | .n6 => .ldPairImm .sp n16 | .n7 => .addHl .sp
  | .n2 => match y with
    | .n0 => .ld_mbc_a | .n1 => .ld_a_mbc | .n2 => .ld_mde_a | .n3 => .ld_a_mde
    | .n4 => .ld_mhli_a | .n5 => .ld_a_mhli | .n6 => .ld_mhld_a | .n7 => .ld_a_mhld
  | .n3 => match y with
    | .n0 => .incPair .bc | .n1 => .decPair .bc | .n2 => .incPair .de | .n3 => .decPair .de
    | .n4 => .incPair .hl | .n5 => .decPair .hl | .n6 => .incPair .sp | .n7 => .decPair .sp
  | .n4 => match operandOf y with | .reg r => .incReg r | .mhl => .inc_mhl
  | .n5 => match operandOf y with | .reg r => .decReg r | .mhl => .dec_mhl
  | .n6 => match operandOf y with | .reg r => .ldRegImm r b1 | .mhl => .ld_mhl_n8 b1
  | .n7 => match y with
    | .n0 => .rlca | .n1 => .rrca | .n2 => .rla | .n3 => .rra
    | .n4 => .daa | .n5 => .cpl | .n6 => .scf | .n7 => .ccf

/-- Primary table, `x = 1` (R80): `y = 6, z = 6` is `HALT`, not a load. -/
def primaryX1 (y z : Num8) : Instr :=
  match operandOf y, operandOf z with
  | .reg r, .reg r' => .ldRegReg r r'
  | .reg r, .mhl => .ldRegMem r
  | .mhl, .reg r => .ldMemReg r
  | .mhl, .mhl => .halt

/-- Primary table, `x = 2` (R80). -/
def primaryX2 (y z : Num8) : Instr :=
  match operandOf z with
  | .reg r => .aluReg (aluOf y) r
  | .mhl => .aluMem (aluOf y)

/-- The extended table (R81), indexed by the byte after 0xCB. -/
def extended (op2 : Byte) : Instr :=
  let y := fieldY op2
  match op2.getLsbD 7, op2.getLsbD 6, operandOf (fieldZ op2) with
  | false, false, .reg r => .rotReg (rotOf y) r
  | false, false, .mhl => .rotMem (rotOf y)
  | false, true, .reg r => .bitReg y r
  | false, true, .mhl => .bitMem y
  | true, false, .reg r => .resReg y r
  | true, false, .mhl => .resMem y
  | true, true, .reg r => .setReg y r
  | true, true, .mhl => .setMem y

/-- Primary table, `x = 3` (R80); `z = 3, y = 1` is the escape byte 0xCB (R70, R195); the eleven
unassigned bytes are R82's. -/
def primaryX3 (y z : Num8) (b1 b2 : Byte) : Instr :=
  let a16 := mkWord b2 b1
  match z with
  | .n0 => match y with
    | .n0 => .retCond .nz | .n1 => .retCond .z | .n2 => .retCond .nc | .n3 => .retCond .c
    | .n4 => .ldh_ma8_a b1 | .n5 => .add_sp_e8 b1 | .n6 => .ldh_a_ma8 b1 | .n7 => .ld_hl_spe8 b1
  | .n1 => match y with
    | .n0 => .pop .bc | .n1 => .ret | .n2 => .pop .de | .n3 => .reti
    | .n4 => .pop .hl | .n5 => .jp_hl | .n6 => .pop .af | .n7 => .ld_sp_hl
  | .n2 => match y with
    | .n0 => .jpCond .nz a16 | .n1 => .jpCond .z a16 | .n2 => .jpCond .nc a16 | .n3 => .jpCond .c a16
    | .n4 => .ldh_mc_a | .n5 => .ld_ma16_a a16 | .n6 => .ldh_a_mc | .n7 => .ld_a_ma16 a16
  | .n3 => match y with
    | .n0 => .jp_a16 a16 | .n1 => extended b1 | .n2 => .invalid_d3 | .n3 => .invalid_db
    | .n4 => .invalid_e3 | .n5 => .invalid_eb | .n6 => .di | .n7 => .ei
  | .n4 => match y with
    | .n0 => .callCond .nz a16 | .n1 => .callCond .z a16
    | .n2 => .callCond .nc a16 | .n3 => .callCond .c a16
    | .n4 => .invalid_e4 | .n5 => .invalid_ec | .n6 => .invalid_f4 | .n7 => .invalid_fc
  | .n5 => match y with
    | .n0 => .push .bc | .n1 => .call_a16 a16 | .n2 => .push .de | .n3 => .invalid_dd
    | .n4 => .push .hl | .n5 => .invalid_ed | .n6 => .push .af | .n7 => .invalid_fd
  | .n6 => .aluImm (aluOf y) b1
  | .n7 => .rst y

/-- The instruction whose bytes are `b0`, `b1`, `b2` (R70); bytes past its length are not used. -/
def decodeBytes (b0 b1 b2 : Byte) : Instr :=
  match b0.getLsbD 7, b0.getLsbD 6 with
  | false, false => primaryX0 (fieldY b0) (fieldZ b0) b1 b2
  | false, true => primaryX1 (fieldY b0) (fieldZ b0)
  | true, false => primaryX2 (fieldY b0) (fieldZ b0)
  | true, true => primaryX3 (fieldY b0) (fieldZ b0) b1 b2

/-! ## Decoding a byte sequence -/

/-- Why a byte sequence is no instruction. -/
inductive DecodeError where
  /-- There is no byte at all. -/
  | noBytes
  /-- The sequence ends before the length its first byte asks for (R71). -/
  | truncated
deriving DecidableEq, Repr

/-- Decode the instruction at the head of a byte sequence and answer it with the bytes after it
(R70, R71). -/
def decode : List Byte → Except DecodeError (Instr × List Byte)
  | [] => .error .noBytes
  | b0 :: rest =>
    let more := lengthByFirstByte b0 - 1
    if rest.length < more then .error .truncated
    else .ok (decodeBytes b0 (rest.getD 0 0#8) (rest.getD 1 0#8), rest.drop more)

/-- The three bytes a table word stands for (log 8). spec/opcode_table.json numbers a row's bits over the
window `byte0 * 256 + byte1` (R86): bits 15:8 are the first byte, bits 7:0 the second; a third byte
counts on at bits 23:16. A word given as a single byte (`nbits` at most 8, value below 256) is that
byte. -/
def tableBytes (nbits w : Nat) : Byte × Byte × Byte :=
  if nbits ≤ 8 ∧ w < 256 then (BitVec.ofNat 8 w, 0#8, 0#8)
  else (BitVec.ofNat 8 (w / 256), BitVec.ofNat 8 w, BitVec.ofNat 8 (w / 65536))

/-- The decoder's reading of a table word (log 8): the bytes go to `decode` in memory order. -/
def decodeTableWord (nbits w : Nat) : Option Instr :=
  let (b0, b1, b2) := tableBytes nbits w
  match decode [b0, b1, b2] with
  | .ok (i, _) => some i
  | .error _ => none

/-! ## The encoder -/

/-- The bytes of an instruction, first byte first, from the grids of R80 and R81 (`0xCB` stands before
an extended opcode) with the immediate assembly of R79: low byte first. -/
def encode : Instr → List Byte
  | .nop => [0x00]
  | .ld_bc_n16 n16 => [0x01, loByte n16, hiByte n16]
  | .ld_mbc_a => [0x02]
  | .inc_bc => [0x03]
  | .inc_b => [0x04]
  | .dec_b => [0x05]
  | .ld_b_n8 n8 => [0x06, n8]
  | .rlca => [0x07]
  | .ld_ma16_sp a16 => [0x08, loByte a16, hiByte a16]
  | .add_hl_bc => [0x09]
  | .ld_a_mbc => [0x0A]
  | .dec_bc => [0x0B]
  | .inc_c => [0x0C]
  | .dec_c => [0x0D]
  | .ld_c_n8 n8 => [0x0E, n8]
  | .rrca => [0x0F]
  | .stop ignored => [0x10, ignored]
  | .ld_de_n16 n16 => [0x11, loByte n16, hiByte n16]
  | .ld_mde_a => [0x12]
  | .inc_de => [0x13]
  | .inc_d => [0x14]
  | .dec_d => [0x15]
  | .ld_d_n8 n8 => [0x16, n8]
  | .rla => [0x17]
  | .jr_e8 e8 => [0x18, e8]
  | .add_hl_de => [0x19]
  | .ld_a_mde => [0x1A]
  | .dec_de => [0x1B]
  | .inc_e => [0x1C]
  | .dec_e => [0x1D]
  | .ld_e_n8 n8 => [0x1E, n8]
  | .rra => [0x1F]
  | .jr_nz_e8 e8 => [0x20, e8]
  | .ld_hl_n16 n16 => [0x21, loByte n16, hiByte n16]
  | .ld_mhli_a => [0x22]
  | .inc_hl => [0x23]
  | .inc_h => [0x24]
  | .dec_h => [0x25]
  | .ld_h_n8 n8 => [0x26, n8]
  | .daa => [0x27]
  | .jr_z_e8 e8 => [0x28, e8]
  | .add_hl_hl => [0x29]
  | .ld_a_mhli => [0x2A]
  | .dec_hl => [0x2B]
  | .inc_l => [0x2C]
  | .dec_l => [0x2D]
  | .ld_l_n8 n8 => [0x2E, n8]
  | .cpl => [0x2F]
  | .jr_nc_e8 e8 => [0x30, e8]
  | .ld_sp_n16 n16 => [0x31, loByte n16, hiByte n16]
  | .ld_mhld_a => [0x32]
  | .inc_sp => [0x33]
  | .inc_mhl => [0x34]
  | .dec_mhl => [0x35]
  | .ld_mhl_n8 n8 => [0x36, n8]
  | .scf => [0x37]
  | .jr_c_e8 e8 => [0x38, e8]
  | .add_hl_sp => [0x39]
  | .ld_a_mhld => [0x3A]
  | .dec_sp => [0x3B]
  | .inc_a => [0x3C]
  | .dec_a => [0x3D]
  | .ld_a_n8 n8 => [0x3E, n8]
  | .ccf => [0x3F]
  | .ld_b_b => [0x40]
  | .ld_b_c => [0x41]
  | .ld_b_d => [0x42]
  | .ld_b_e => [0x43]
  | .ld_b_h => [0x44]
  | .ld_b_l => [0x45]
  | .ld_b_mhl => [0x46]
  | .ld_b_a => [0x47]
  | .ld_c_b => [0x48]
  | .ld_c_c => [0x49]
  | .ld_c_d => [0x4A]
  | .ld_c_e => [0x4B]
  | .ld_c_h => [0x4C]
  | .ld_c_l => [0x4D]
  | .ld_c_mhl => [0x4E]
  | .ld_c_a => [0x4F]
  | .ld_d_b => [0x50]
  | .ld_d_c => [0x51]
  | .ld_d_d => [0x52]
  | .ld_d_e => [0x53]
  | .ld_d_h => [0x54]
  | .ld_d_l => [0x55]
  | .ld_d_mhl => [0x56]
  | .ld_d_a => [0x57]
  | .ld_e_b => [0x58]
  | .ld_e_c => [0x59]
  | .ld_e_d => [0x5A]
  | .ld_e_e => [0x5B]
  | .ld_e_h => [0x5C]
  | .ld_e_l => [0x5D]
  | .ld_e_mhl => [0x5E]
  | .ld_e_a => [0x5F]
  | .ld_h_b => [0x60]
  | .ld_h_c => [0x61]
  | .ld_h_d => [0x62]
  | .ld_h_e => [0x63]
  | .ld_h_h => [0x64]
  | .ld_h_l => [0x65]
  | .ld_h_mhl => [0x66]
  | .ld_h_a => [0x67]
  | .ld_l_b => [0x68]
  | .ld_l_c => [0x69]
  | .ld_l_d => [0x6A]
  | .ld_l_e => [0x6B]
  | .ld_l_h => [0x6C]
  | .ld_l_l => [0x6D]
  | .ld_l_mhl => [0x6E]
  | .ld_l_a => [0x6F]
  | .ld_mhl_b => [0x70]
  | .ld_mhl_c => [0x71]
  | .ld_mhl_d => [0x72]
  | .ld_mhl_e => [0x73]
  | .ld_mhl_h => [0x74]
  | .ld_mhl_l => [0x75]
  | .halt => [0x76]
  | .ld_mhl_a => [0x77]
  | .ld_a_b => [0x78]
  | .ld_a_c => [0x79]
  | .ld_a_d => [0x7A]
  | .ld_a_e => [0x7B]
  | .ld_a_h => [0x7C]
  | .ld_a_l => [0x7D]
  | .ld_a_mhl => [0x7E]
  | .ld_a_a => [0x7F]
  | .add_a_b => [0x80]
  | .add_a_c => [0x81]
  | .add_a_d => [0x82]
  | .add_a_e => [0x83]
  | .add_a_h => [0x84]
  | .add_a_l => [0x85]
  | .add_a_mhl => [0x86]
  | .add_a_a => [0x87]
  | .adc_a_b => [0x88]
  | .adc_a_c => [0x89]
  | .adc_a_d => [0x8A]
  | .adc_a_e => [0x8B]
  | .adc_a_h => [0x8C]
  | .adc_a_l => [0x8D]
  | .adc_a_mhl => [0x8E]
  | .adc_a_a => [0x8F]
  | .sub_a_b => [0x90]
  | .sub_a_c => [0x91]
  | .sub_a_d => [0x92]
  | .sub_a_e => [0x93]
  | .sub_a_h => [0x94]
  | .sub_a_l => [0x95]
  | .sub_a_mhl => [0x96]
  | .sub_a_a => [0x97]
  | .sbc_a_b => [0x98]
  | .sbc_a_c => [0x99]
  | .sbc_a_d => [0x9A]
  | .sbc_a_e => [0x9B]
  | .sbc_a_h => [0x9C]
  | .sbc_a_l => [0x9D]
  | .sbc_a_mhl => [0x9E]
  | .sbc_a_a => [0x9F]
  | .and_a_b => [0xA0]
  | .and_a_c => [0xA1]
  | .and_a_d => [0xA2]
  | .and_a_e => [0xA3]
  | .and_a_h => [0xA4]
  | .and_a_l => [0xA5]
  | .and_a_mhl => [0xA6]
  | .and_a_a => [0xA7]
  | .xor_a_b => [0xA8]
  | .xor_a_c => [0xA9]
  | .xor_a_d => [0xAA]
  | .xor_a_e => [0xAB]
  | .xor_a_h => [0xAC]
  | .xor_a_l => [0xAD]
  | .xor_a_mhl => [0xAE]
  | .xor_a_a => [0xAF]
  | .or_a_b => [0xB0]
  | .or_a_c => [0xB1]
  | .or_a_d => [0xB2]
  | .or_a_e => [0xB3]
  | .or_a_h => [0xB4]
  | .or_a_l => [0xB5]
  | .or_a_mhl => [0xB6]
  | .or_a_a => [0xB7]
  | .cp_a_b => [0xB8]
  | .cp_a_c => [0xB9]
  | .cp_a_d => [0xBA]
  | .cp_a_e => [0xBB]
  | .cp_a_h => [0xBC]
  | .cp_a_l => [0xBD]
  | .cp_a_mhl => [0xBE]
  | .cp_a_a => [0xBF]
  | .ret_nz => [0xC0]
  | .pop_bc => [0xC1]
  | .jp_nz_a16 a16 => [0xC2, loByte a16, hiByte a16]
  | .jp_a16 a16 => [0xC3, loByte a16, hiByte a16]
  | .call_nz_a16 a16 => [0xC4, loByte a16, hiByte a16]
  | .push_bc => [0xC5]
  | .add_a_n8 n8 => [0xC6, n8]
  | .rst_00h => [0xC7]
  | .ret_z => [0xC8]
  | .ret => [0xC9]
  | .jp_z_a16 a16 => [0xCA, loByte a16, hiByte a16]
  | .call_z_a16 a16 => [0xCC, loByte a16, hiByte a16]
  | .call_a16 a16 => [0xCD, loByte a16, hiByte a16]
  | .adc_a_n8 n8 => [0xCE, n8]
  | .rst_08h => [0xCF]
  | .ret_nc => [0xD0]
  | .pop_de => [0xD1]
  | .jp_nc_a16 a16 => [0xD2, loByte a16, hiByte a16]
  | .invalid_d3 => [0xD3]
  | .call_nc_a16 a16 => [0xD4, loByte a16, hiByte a16]
  | .push_de => [0xD5]
  | .sub_a_n8 n8 => [0xD6, n8]
  | .rst_10h => [0xD7]
  | .ret_c => [0xD8]
  | .reti => [0xD9]
  | .jp_c_a16 a16 => [0xDA, loByte a16, hiByte a16]
  | .invalid_db => [0xDB]
  | .call_c_a16 a16 => [0xDC, loByte a16, hiByte a16]
  | .invalid_dd => [0xDD]
  | .sbc_a_n8 n8 => [0xDE, n8]
  | .rst_18h => [0xDF]
  | .ldh_ma8_a a8 => [0xE0, a8]
  | .pop_hl => [0xE1]
  | .ldh_mc_a => [0xE2]
  | .invalid_e3 => [0xE3]
  | .invalid_e4 => [0xE4]
  | .push_hl => [0xE5]
  | .and_a_n8 n8 => [0xE6, n8]
  | .rst_20h => [0xE7]
  | .add_sp_e8 e8 => [0xE8, e8]
  | .jp_hl => [0xE9]
  | .ld_ma16_a a16 => [0xEA, loByte a16, hiByte a16]
  | .invalid_eb => [0xEB]
  | .invalid_ec => [0xEC]
  | .invalid_ed => [0xED]
  | .xor_a_n8 n8 => [0xEE, n8]
  | .rst_28h => [0xEF]
  | .ldh_a_ma8 a8 => [0xF0, a8]
  | .pop_af => [0xF1]
  | .ldh_a_mc => [0xF2]
  | .di => [0xF3]
  | .invalid_f4 => [0xF4]
  | .push_af => [0xF5]
  | .or_a_n8 n8 => [0xF6, n8]
  | .rst_30h => [0xF7]
  | .ld_hl_spe8 e8 => [0xF8, e8]
  | .ld_sp_hl => [0xF9]
  | .ld_a_ma16 a16 => [0xFA, loByte a16, hiByte a16]
  | .ei => [0xFB]
  | .invalid_fc => [0xFC]
  | .invalid_fd => [0xFD]
  | .cp_a_n8 n8 => [0xFE, n8]
  | .rst_38h => [0xFF]
  | .rlc_b => [0xCB, 0x00]
  | .rlc_c => [0xCB, 0x01]
  | .rlc_d => [0xCB, 0x02]
  | .rlc_e => [0xCB, 0x03]
  | .rlc_h => [0xCB, 0x04]
  | .rlc_l => [0xCB, 0x05]
  | .rlc_mhl => [0xCB, 0x06]
  | .rlc_a => [0xCB, 0x07]
  | .rrc_b => [0xCB, 0x08]
  | .rrc_c => [0xCB, 0x09]
  | .rrc_d => [0xCB, 0x0A]
  | .rrc_e => [0xCB, 0x0B]
  | .rrc_h => [0xCB, 0x0C]
  | .rrc_l => [0xCB, 0x0D]
  | .rrc_mhl => [0xCB, 0x0E]
  | .rrc_a => [0xCB, 0x0F]
  | .rl_b => [0xCB, 0x10]
  | .rl_c => [0xCB, 0x11]
  | .rl_d => [0xCB, 0x12]
  | .rl_e => [0xCB, 0x13]
  | .rl_h => [0xCB, 0x14]
  | .rl_l => [0xCB, 0x15]
  | .rl_mhl => [0xCB, 0x16]
  | .rl_a => [0xCB, 0x17]
  | .rr_b => [0xCB, 0x18]
  | .rr_c => [0xCB, 0x19]
  | .rr_d => [0xCB, 0x1A]
  | .rr_e => [0xCB, 0x1B]
  | .rr_h => [0xCB, 0x1C]
  | .rr_l => [0xCB, 0x1D]
  | .rr_mhl => [0xCB, 0x1E]
  | .rr_a => [0xCB, 0x1F]
  | .sla_b => [0xCB, 0x20]
  | .sla_c => [0xCB, 0x21]
  | .sla_d => [0xCB, 0x22]
  | .sla_e => [0xCB, 0x23]
  | .sla_h => [0xCB, 0x24]
  | .sla_l => [0xCB, 0x25]
  | .sla_mhl => [0xCB, 0x26]
  | .sla_a => [0xCB, 0x27]
  | .sra_b => [0xCB, 0x28]
  | .sra_c => [0xCB, 0x29]
  | .sra_d => [0xCB, 0x2A]
  | .sra_e => [0xCB, 0x2B]
  | .sra_h => [0xCB, 0x2C]
  | .sra_l => [0xCB, 0x2D]
  | .sra_mhl => [0xCB, 0x2E]
  | .sra_a => [0xCB, 0x2F]
  | .swap_b => [0xCB, 0x30]
  | .swap_c => [0xCB, 0x31]
  | .swap_d => [0xCB, 0x32]
  | .swap_e => [0xCB, 0x33]
  | .swap_h => [0xCB, 0x34]
  | .swap_l => [0xCB, 0x35]
  | .swap_mhl => [0xCB, 0x36]
  | .swap_a => [0xCB, 0x37]
  | .srl_b => [0xCB, 0x38]
  | .srl_c => [0xCB, 0x39]
  | .srl_d => [0xCB, 0x3A]
  | .srl_e => [0xCB, 0x3B]
  | .srl_h => [0xCB, 0x3C]
  | .srl_l => [0xCB, 0x3D]
  | .srl_mhl => [0xCB, 0x3E]
  | .srl_a => [0xCB, 0x3F]
  | .bit_0_b => [0xCB, 0x40]
  | .bit_0_c => [0xCB, 0x41]
  | .bit_0_d => [0xCB, 0x42]
  | .bit_0_e => [0xCB, 0x43]
  | .bit_0_h => [0xCB, 0x44]
  | .bit_0_l => [0xCB, 0x45]
  | .bit_0_mhl => [0xCB, 0x46]
  | .bit_0_a => [0xCB, 0x47]
  | .bit_1_b => [0xCB, 0x48]
  | .bit_1_c => [0xCB, 0x49]
  | .bit_1_d => [0xCB, 0x4A]
  | .bit_1_e => [0xCB, 0x4B]
  | .bit_1_h => [0xCB, 0x4C]
  | .bit_1_l => [0xCB, 0x4D]
  | .bit_1_mhl => [0xCB, 0x4E]
  | .bit_1_a => [0xCB, 0x4F]
  | .bit_2_b => [0xCB, 0x50]
  | .bit_2_c => [0xCB, 0x51]
  | .bit_2_d => [0xCB, 0x52]
  | .bit_2_e => [0xCB, 0x53]
  | .bit_2_h => [0xCB, 0x54]
  | .bit_2_l => [0xCB, 0x55]
  | .bit_2_mhl => [0xCB, 0x56]
  | .bit_2_a => [0xCB, 0x57]
  | .bit_3_b => [0xCB, 0x58]
  | .bit_3_c => [0xCB, 0x59]
  | .bit_3_d => [0xCB, 0x5A]
  | .bit_3_e => [0xCB, 0x5B]
  | .bit_3_h => [0xCB, 0x5C]
  | .bit_3_l => [0xCB, 0x5D]
  | .bit_3_mhl => [0xCB, 0x5E]
  | .bit_3_a => [0xCB, 0x5F]
  | .bit_4_b => [0xCB, 0x60]
  | .bit_4_c => [0xCB, 0x61]
  | .bit_4_d => [0xCB, 0x62]
  | .bit_4_e => [0xCB, 0x63]
  | .bit_4_h => [0xCB, 0x64]
  | .bit_4_l => [0xCB, 0x65]
  | .bit_4_mhl => [0xCB, 0x66]
  | .bit_4_a => [0xCB, 0x67]
  | .bit_5_b => [0xCB, 0x68]
  | .bit_5_c => [0xCB, 0x69]
  | .bit_5_d => [0xCB, 0x6A]
  | .bit_5_e => [0xCB, 0x6B]
  | .bit_5_h => [0xCB, 0x6C]
  | .bit_5_l => [0xCB, 0x6D]
  | .bit_5_mhl => [0xCB, 0x6E]
  | .bit_5_a => [0xCB, 0x6F]
  | .bit_6_b => [0xCB, 0x70]
  | .bit_6_c => [0xCB, 0x71]
  | .bit_6_d => [0xCB, 0x72]
  | .bit_6_e => [0xCB, 0x73]
  | .bit_6_h => [0xCB, 0x74]
  | .bit_6_l => [0xCB, 0x75]
  | .bit_6_mhl => [0xCB, 0x76]
  | .bit_6_a => [0xCB, 0x77]
  | .bit_7_b => [0xCB, 0x78]
  | .bit_7_c => [0xCB, 0x79]
  | .bit_7_d => [0xCB, 0x7A]
  | .bit_7_e => [0xCB, 0x7B]
  | .bit_7_h => [0xCB, 0x7C]
  | .bit_7_l => [0xCB, 0x7D]
  | .bit_7_mhl => [0xCB, 0x7E]
  | .bit_7_a => [0xCB, 0x7F]
  | .res_0_b => [0xCB, 0x80]
  | .res_0_c => [0xCB, 0x81]
  | .res_0_d => [0xCB, 0x82]
  | .res_0_e => [0xCB, 0x83]
  | .res_0_h => [0xCB, 0x84]
  | .res_0_l => [0xCB, 0x85]
  | .res_0_mhl => [0xCB, 0x86]
  | .res_0_a => [0xCB, 0x87]
  | .res_1_b => [0xCB, 0x88]
  | .res_1_c => [0xCB, 0x89]
  | .res_1_d => [0xCB, 0x8A]
  | .res_1_e => [0xCB, 0x8B]
  | .res_1_h => [0xCB, 0x8C]
  | .res_1_l => [0xCB, 0x8D]
  | .res_1_mhl => [0xCB, 0x8E]
  | .res_1_a => [0xCB, 0x8F]
  | .res_2_b => [0xCB, 0x90]
  | .res_2_c => [0xCB, 0x91]
  | .res_2_d => [0xCB, 0x92]
  | .res_2_e => [0xCB, 0x93]
  | .res_2_h => [0xCB, 0x94]
  | .res_2_l => [0xCB, 0x95]
  | .res_2_mhl => [0xCB, 0x96]
  | .res_2_a => [0xCB, 0x97]
  | .res_3_b => [0xCB, 0x98]
  | .res_3_c => [0xCB, 0x99]
  | .res_3_d => [0xCB, 0x9A]
  | .res_3_e => [0xCB, 0x9B]
  | .res_3_h => [0xCB, 0x9C]
  | .res_3_l => [0xCB, 0x9D]
  | .res_3_mhl => [0xCB, 0x9E]
  | .res_3_a => [0xCB, 0x9F]
  | .res_4_b => [0xCB, 0xA0]
  | .res_4_c => [0xCB, 0xA1]
  | .res_4_d => [0xCB, 0xA2]
  | .res_4_e => [0xCB, 0xA3]
  | .res_4_h => [0xCB, 0xA4]
  | .res_4_l => [0xCB, 0xA5]
  | .res_4_mhl => [0xCB, 0xA6]
  | .res_4_a => [0xCB, 0xA7]
  | .res_5_b => [0xCB, 0xA8]
  | .res_5_c => [0xCB, 0xA9]
  | .res_5_d => [0xCB, 0xAA]
  | .res_5_e => [0xCB, 0xAB]
  | .res_5_h => [0xCB, 0xAC]
  | .res_5_l => [0xCB, 0xAD]
  | .res_5_mhl => [0xCB, 0xAE]
  | .res_5_a => [0xCB, 0xAF]
  | .res_6_b => [0xCB, 0xB0]
  | .res_6_c => [0xCB, 0xB1]
  | .res_6_d => [0xCB, 0xB2]
  | .res_6_e => [0xCB, 0xB3]
  | .res_6_h => [0xCB, 0xB4]
  | .res_6_l => [0xCB, 0xB5]
  | .res_6_mhl => [0xCB, 0xB6]
  | .res_6_a => [0xCB, 0xB7]
  | .res_7_b => [0xCB, 0xB8]
  | .res_7_c => [0xCB, 0xB9]
  | .res_7_d => [0xCB, 0xBA]
  | .res_7_e => [0xCB, 0xBB]
  | .res_7_h => [0xCB, 0xBC]
  | .res_7_l => [0xCB, 0xBD]
  | .res_7_mhl => [0xCB, 0xBE]
  | .res_7_a => [0xCB, 0xBF]
  | .set_0_b => [0xCB, 0xC0]
  | .set_0_c => [0xCB, 0xC1]
  | .set_0_d => [0xCB, 0xC2]
  | .set_0_e => [0xCB, 0xC3]
  | .set_0_h => [0xCB, 0xC4]
  | .set_0_l => [0xCB, 0xC5]
  | .set_0_mhl => [0xCB, 0xC6]
  | .set_0_a => [0xCB, 0xC7]
  | .set_1_b => [0xCB, 0xC8]
  | .set_1_c => [0xCB, 0xC9]
  | .set_1_d => [0xCB, 0xCA]
  | .set_1_e => [0xCB, 0xCB]
  | .set_1_h => [0xCB, 0xCC]
  | .set_1_l => [0xCB, 0xCD]
  | .set_1_mhl => [0xCB, 0xCE]
  | .set_1_a => [0xCB, 0xCF]
  | .set_2_b => [0xCB, 0xD0]
  | .set_2_c => [0xCB, 0xD1]
  | .set_2_d => [0xCB, 0xD2]
  | .set_2_e => [0xCB, 0xD3]
  | .set_2_h => [0xCB, 0xD4]
  | .set_2_l => [0xCB, 0xD5]
  | .set_2_mhl => [0xCB, 0xD6]
  | .set_2_a => [0xCB, 0xD7]
  | .set_3_b => [0xCB, 0xD8]
  | .set_3_c => [0xCB, 0xD9]
  | .set_3_d => [0xCB, 0xDA]
  | .set_3_e => [0xCB, 0xDB]
  | .set_3_h => [0xCB, 0xDC]
  | .set_3_l => [0xCB, 0xDD]
  | .set_3_mhl => [0xCB, 0xDE]
  | .set_3_a => [0xCB, 0xDF]
  | .set_4_b => [0xCB, 0xE0]
  | .set_4_c => [0xCB, 0xE1]
  | .set_4_d => [0xCB, 0xE2]
  | .set_4_e => [0xCB, 0xE3]
  | .set_4_h => [0xCB, 0xE4]
  | .set_4_l => [0xCB, 0xE5]
  | .set_4_mhl => [0xCB, 0xE6]
  | .set_4_a => [0xCB, 0xE7]
  | .set_5_b => [0xCB, 0xE8]
  | .set_5_c => [0xCB, 0xE9]
  | .set_5_d => [0xCB, 0xEA]
  | .set_5_e => [0xCB, 0xEB]
  | .set_5_h => [0xCB, 0xEC]
  | .set_5_l => [0xCB, 0xED]
  | .set_5_mhl => [0xCB, 0xEE]
  | .set_5_a => [0xCB, 0xEF]
  | .set_6_b => [0xCB, 0xF0]
  | .set_6_c => [0xCB, 0xF1]
  | .set_6_d => [0xCB, 0xF2]
  | .set_6_e => [0xCB, 0xF3]
  | .set_6_h => [0xCB, 0xF4]
  | .set_6_l => [0xCB, 0xF5]
  | .set_6_mhl => [0xCB, 0xF6]
  | .set_6_a => [0xCB, 0xF7]
  | .set_7_b => [0xCB, 0xF8]
  | .set_7_c => [0xCB, 0xF9]
  | .set_7_d => [0xCB, 0xFA]
  | .set_7_e => [0xCB, 0xFB]
  | .set_7_h => [0xCB, 0xFC]
  | .set_7_l => [0xCB, 0xFD]
  | .set_7_mhl => [0xCB, 0xFE]
  | .set_7_a => [0xCB, 0xFF]

end Sys2Proof
end

