-- ==== Sys2Proof/Machine/Addresses.lean ====
section
/-! DEFINITION. The address map's boundaries (20_memory.md R53). -/

namespace Sys2Proof.Machine

/-- The backing stores behind the decoder (R53). -/
inductive Region where
  | cartRom | vram | cartRam | oam | internal
deriving DecidableEq, Repr

/-- The decoder: "Address space is divided into fixed ranges, tested in this priority order" (R53). -/
def regionOf (a : Word) : Region :=
  if a ≤ 0x7FFF#16 then .cartRom
  else if a ≤ 0x9FFF#16 then .vram
  else if a ≤ 0xBFFF#16 then .cartRam
  else if 0xFE00#16 ≤ a ∧ a ≤ 0xFE9F#16 then .oam
  else .internal

/-- The index of a VRAM address, `a - 0x8000`. -/
def vramIndex (a : Word) : Nat := (a - 0x8000#16).toNat

/-- The index of an OAM address, `a - 0xFE00`. -/
def oamIndex (a : Word) : Nat := (a - 0xFE00#16).toNat

end Sys2Proof.Machine
end

