-- ==== Sys2Proof/Config.lean ====
section
/-! DEFINITION. The default values of the implementation parameters of 00_scope.md R8 that are single
numbers. The parameters themselves are arguments of the launch state (`Machine.Params`, logs 3 to 5);
these are the values that `Machine.Params.default` gives them. -/

namespace Sys2Proof.Config

/-- `CLOCK`: the modulus of the CPU cycle counter (R8, R27, C4). -/
def clock : Nat := 4194304

/-- `TICKS_PER_CYCLE` (R8). -/
def ticksPerCycle : Nat := 4

/-- `INVALID_CYCLES`: cycles of an unassigned opcode byte (R8, R196). -/
def invalidCycles : Nat := 1

/-- `INT_CYCLES`: cycles of an interrupt dispatch (R8, R250). -/
def intCycles : Nat := 5

/-- `HALT_IDLE_CYCLES`: cycles of one halted step (R8, R248). -/
def haltIdleCycles : Nat := 1

/-- `DIV_PERIOD`: ticks per DIV increment (R8, R198). -/
def divPeriod : Nat := 256

/-- `SERIAL_START`: the "start transfer" pattern (R8, R59). -/
def serialStart : Byte := 0x81#8

end Sys2Proof.Config
end

