-- ==== Sys2Proof/Machine/Params.lean ====
section
/-! DEFINITION. The implementation parameters of 00_scope.md R8 as plain data, with their default
values. They are arguments of the launch state: `Launch.params` holds them and no rule of the machine
changes them (logs 3, 4, 5). -/

namespace Sys2Proof.Machine

/-- `RESET_REGS`: "the fixed post-boot register pattern" (R8, R267). -/
structure ResetRegs where
  a : Byte
  f : Byte
  b : Byte
  c : Byte
  d : Byte
  e : Byte
  h : Byte
  l : Byte
  sp : Word
  pc : Word
deriving DecidableEq, Repr

/-- The interrupt vectors, "one fixed service vector address per source" (R8, R245). -/
structure Vectors where
  vblank : Word
  stat : Word
  timer : Word
  serial : Word
  joypad : Word
deriving DecidableEq, Repr

/-- `TIMA_PERIOD[0..3]`: ticks per TIMA increment for TAC[1:0] = 0, 1, 2, 3 (R8, R200, C3). -/
structure TimaPeriods where
  code0 : Nat
  code1 : Nat
  code2 : Nat
  code3 : Nat
deriving DecidableEq, Repr

/-- The I/O register addresses (R8, R31). -/
structure IoMap where
  joyp : Word
  sb : Word
  sc : Word
  div : Word
  tima : Word
  tma : Word
  tac : Word
  /-- IF, the interrupt flags. -/
  iflag : Word
  lcdc : Word
  stat : Word
  scy : Word
  scx : Word
  ly : Word
  lyc : Word
  dma : Word
  bgp : Word
  obp0 : Word
  obp1 : Word
  wy : Word
  wx : Word
  /-- IE, the interrupt enable. -/
  ienable : Word
deriving DecidableEq, Repr

/-- The implementation parameters (R8). -/
structure Params where
  /-- `CLOCK`. -/
  clock : Nat
  /-- `TICKS_PER_CYCLE`. -/
  ticksPerCycle : Nat
  /-- `CYCLES(op)` where it differs from the table of R85: opcode number (as `opcodeOf` numbers them)
  and cycles (log 4). -/
  cycles : List (Nat × Nat)
  /-- `CYCLES_NT(op)`, likewise. -/
  cyclesNotTaken : List (Nat × Nat)
  /-- `INVALID_CYCLES`. -/
  invalidCycles : Nat
  /-- `INT_CYCLES`. -/
  intCycles : Nat
  /-- `HALT_IDLE_CYCLES`. -/
  haltIdleCycles : Nat
  /-- `DIV_PERIOD`. -/
  divPeriod : Nat
  /-- `TIMA_PERIOD`. -/
  timaPeriods : TimaPeriods
  /-- `RESET_REGS`. -/
  resetRegs : ResetRegs
  /-- `SERIAL_START`. -/
  serialStart : Byte
  /-- The interrupt vectors. -/
  vectors : Vectors
  /-- The I/O addresses. -/
  io : IoMap
deriving DecidableEq, Repr

/-- The default register pattern (R266). -/
def ResetRegs.default : ResetRegs :=
  { a := 0x01, f := 0xB0, b := 0x00, c := 0x13, d := 0x00, e := 0xD8, h := 0x01, l := 0x4D,
    sp := 0xFFFE, pc := 0x0100 }

/-- The default vectors: `0x0040 + 8 * i` (R245). -/
def Vectors.default : Vectors :=
  { vblank := 0x0040, stat := 0x0048, timer := 0x0050, serial := 0x0058, joypad := 0x0060 }

/-- The default periods (R200). -/
def TimaPeriods.default : TimaPeriods := { code0 := 1024, code1 := 16, code2 := 64, code3 := 256 }

/-- The default I/O addresses (R31). -/
def IoMap.default : IoMap :=
  { joyp := 0xFF00, sb := 0xFF01, sc := 0xFF02, div := 0xFF04, tima := 0xFF05, tma := 0xFF06,
    tac := 0xFF07, iflag := 0xFF0F, lcdc := 0xFF40, stat := 0xFF41, scy := 0xFF42, scx := 0xFF43,
    ly := 0xFF44, lyc := 0xFF45, dma := 0xFF46, bgp := 0xFF47, obp0 := 0xFF48, obp1 := 0xFF49,
    wy := 0xFF4A, wx := 0xFF4B, ienable := 0xFFFF }

/-- Every parameter at its default (R8). -/
def Params.default : Params :=
  { clock := Config.clock, ticksPerCycle := Config.ticksPerCycle, cycles := [], cyclesNotTaken := [],
    invalidCycles := Config.invalidCycles, intCycles := Config.intCycles,
    haltIdleCycles := Config.haltIdleCycles, divPeriod := Config.divPeriod,
    timaPeriods := TimaPeriods.default, resetRegs := ResetRegs.default,
    serialStart := Config.serialStart, vectors := Vectors.default, io := IoMap.default }

/-- The vector of interrupt source `i` (R245). -/
def Vectors.of (v : Vectors) (i : Nat) : Word :=
  if i = 0 then v.vblank
  else if i = 1 then v.stat
  else if i = 2 then v.timer
  else if i = 3 then v.serial
  else v.joypad

/-- `TIMA_PERIOD[code]` (R200). -/
def TimaPeriods.of (p : TimaPeriods) (code : BitVec 2) : Nat :=
  if code = 0#2 then p.code0 else if code = 1#2 then p.code1 else if code = 2#2 then p.code2
  else p.code3

end Sys2Proof.Machine
end

