-- ==== Sys2Proof/Machine/State.lean ====
section
/-! DEFINITION. The machine's state (10_state.md), as plain data; the reasons a step can stop; the
state right after reset (70_reset_and_hazards.md R266). -/

namespace Sys2Proof

/-- Values of width `w` by key, in one canonical form: keys strictly rising, no entry equal to what an
unlisted key reads as (zero: the default of `INIT_MEM`, R30; log 2). -/
abbrev Store (w : Nat) := List (Nat × BitVec w)

/-- A byte store: a list of `Host.Cell`. -/
abbrev Memory := List Host.Cell

/-- The canonical form. -/
abbrev Store.wf {w : Nat} (m : Store w) : Prop :=
  m.Pairwise (fun x y => x.1 < y.1) ∧ ∀ x ∈ m, x.2 ≠ 0#w

/-- The canonical form of a byte store. -/
abbrev Memory.wf (m : Memory) : Prop := Store.wf (w := 8) m

/-- Every key is below `n`: the store holds nothing outside its declared range. -/
abbrev Store.below {w : Nat} (n : Nat) (m : Store w) : Prop := ∀ x ∈ m, x.1 < n

end Sys2Proof

namespace Sys2Proof.Machine

/-- The CPU (10_state.md sections 1 to 4). The pairs `AF BC DE HL` are views of the bytes (R17). -/
structure Cpu where
  a : Byte
  /-- The flags: `Z N H C` in bits 7 to 4, bits 3:0 always zero (R18). -/
  f : Byte
  b : Byte
  c : Byte
  d : Byte
  e : Byte
  h : Byte
  l : Byte
  /-- R20. -/
  sp : Word
  /-- R21. -/
  pc : Word
  /-- The interrupt master enable (R25). -/
  ime : Bool
  /-- R26. -/
  halted : Bool
  /-- The running cycle counter, modulo `CLOCK` (R27). -/
  cycle : Nat
  /-- The model's own field (log 1): the number `CPU.Step()` returns (R13, R248), which the machine
  update hands to the timer and the PPU (R255). -/
  spent : Nat
deriving DecidableEq, Repr

/-- The timer's private accumulators, in ticks (R48). -/
structure Timer where
  divAcc : Nat
  timaAcc : Nat
deriving DecidableEq, Repr

/-- The PPU mode (R49, R206): 2 scan, 3 transfer, 0 horizontal blank, 1 vertical blank. -/
inductive PpuMode where
  | hblank | vblank | scan | transfer
deriving DecidableEq, Repr

/-- What the fetcher fetches (R49). -/
inductive FetchKind where
  | bg | win | obj
deriving DecidableEq, Repr

/-- The fetcher's stage, 0 to 3 (R49). -/
inductive FetchStage where
  | s0 | s1 | s2 | s3
deriving DecidableEq, Repr

/-- The pixel fetcher (R49). -/
structure Fetcher where
  kind : FetchKind
  stage : FetchStage
  /-- Ticks accumulated in the stage. -/
  sub : Nat
  tile : Byte
  addr : Word
  lo : Byte
  hi : Byte
  /-- Index into `Ppu.sprites` of the sprite being fetched. -/
  slot : Nat
deriving DecidableEq, Repr

/-- A sprite selected for the scanline (R49, R213). -/
structure Sprite where
  y : Byte
  x : Byte
  tile : Byte
  attr : Byte
  fetched : Bool
deriving DecidableEq, Repr

/-- A pending pixel (R49, R222). -/
structure Pixel where
  color : BitVec 2
  obj : Bool
deriving DecidableEq, Repr

/-- The PPU's private state and the frame buffer (R49). The pixel of row `y`, column `x` is entry
`160 * y + x` of `fb`. -/
structure Ppu where
  mode : PpuMode
  /-- Ticks elapsed in the current scanline (R206). -/
  dot : Nat
  fetcher : Fetcher
  fetchX : Nat
  winFetchX : Nat
  sprites : List Sprite
  fifo : List Pixel
  /-- The output column: pixels written to the current row (R223). -/
  lx : Nat
  discard : Nat
  windowActive : Bool
  wyReached : Bool
  windowEngaged : Bool
  windowLine : Byte
  fb : Store 2
  frameDone : Bool
deriving DecidableEq, Repr

/-- The two mapper kinds (R232). -/
inductive CartKind where
  | none | mbc1
deriving DecidableEq, Repr

/-- The header parsed at load time (R230). -/
structure Header where
  title : List Byte
  newLicensee : List Byte
  cartType : Byte
  romSizeCode : Byte
  ramSizeCode : Byte
  destination : Byte
  oldLicensee : Byte
  version : Byte
  checksum : Byte
  checksumOk : Bool
deriving DecidableEq, Repr

/-- A loaded cartridge (R50). -/
structure Cart where
  kind : CartKind
  header : Header
  rom : Memory
  /-- `BANKS`: how many 16 KiB banks the ROM storage has (R233). -/
  romBanks : Nat
  ram : Memory
  /-- `RAMSIZE` in bytes (R233). -/
  ramSize : Nat
  /-- The 5-bit ROM bank register, never 0 (R235). -/
  bank1 : BitVec 5
  /-- The 2-bit secondary register (R235). -/
  bank2 : BitVec 2
  /-- The RAM-enable latch (R235). -/
  ramEn : Bool
  /-- The banking-mode flag: true is advanced (R235). -/
  mode : Bool
deriving DecidableEq, Repr

/-- The eight logical buttons (R51, R262). -/
inductive Button where
  | right | left | up | down | a | b | select | start
deriving DecidableEq, Repr

/-- `held`: which buttons are held (R51). -/
structure Held where
  right : Bool
  left : Bool
  up : Bool
  down : Bool
  a : Bool
  b : Bool
  select : Bool
  start : Bool
deriving DecidableEq, Repr

/-- The host's actions that change CORE state (R261). -/
inductive HostEvent where
  /-- `LoadROM(bytes)` (R229). -/
  | loadRom (bytes : List Byte)
  /-- `Reset()` (R266). -/
  | reset
  /-- `OnInputPressed(button)` (R262). -/
  | press (button : Button)
  /-- `OnInputReleased(button)` (R262). -/
  | release (button : Button)
  /-- The host clears `frame_done` after reading the frame buffer (R263). -/
  | clearFrameDone
deriving DecidableEq, Repr

/-- The 256 bytes of `BOOT_ROM` (R8, R240). -/
abbrev BootRom := Vector Byte 256

/-- The launch arguments (R8). No rule of the machine changes any of them but `updates`, which counts
the machine updates made, the index that `HOST_EVENTS` refers to (log 11). -/
structure Launch where
  /-- The implementation parameters. -/
  params : Params
  /-- `BOOT_OVERLAY` with its `BOOT_ROM`: `none` is `BOOT_OVERLAY = false`, `some rom` is
  `BOOT_OVERLAY = true` with these bytes. An overlay without them, which a model "must refuse"
  (93_implementation_defined.md U10), is no value of this type (log 6). -/
  boot : Option BootRom
  /-- `INIT_MEM` of the internal byte array. -/
  initMem : Memory
  /-- `INIT_MEM` of VRAM. -/
  initVram : Memory
  /-- `INIT_MEM` of OAM. -/
  initOam : Memory
  /-- `HOST_EVENTS`: each action with the index of the machine update before which it happens. -/
  hostEvents : List (Nat × HostEvent)
  updates : Nat
deriving DecidableEq, Repr

/-- `BOOT_OVERLAY` (R8). -/
def Launch.bootOverlay (l : Launch) : Bool := l.boot.isSome

/-- The whole machine (00_scope.md R6): CPU, bus, timer, PPU, cartridge, host-side latches, launch
arguments. -/
structure State where
  cpu : Cpu
  /-- The internal byte array, by bus address (R29, R55); the I/O registers of R31 are bytes of it. -/
  mem : Memory
  /-- VRAM, by offset from 0x8000 (R29). -/
  vram : Memory
  /-- OAM, by offset from 0xFE00 (R29). -/
  oam : Memory
  timer : Timer
  ppu : Ppu
  /-- `none`: no cartridge is present, `loaded = false` (R50). -/
  cart : Option Cart
  /-- R240. -/
  overlayActive : Bool
  held : Held
  /-- The bytes emitted by the serial hook, oldest first (R51, R59). -/
  serialOut : List Byte
  launch : Launch
deriving DecidableEq, Repr

/-- The parameters (R8). -/
abbrev State.params (s : State) : Params := s.launch.params

/-- The I/O addresses (R31). -/
abbrev State.io (s : State) : IoMap := s.launch.params.io

/-- The component accessors with a declared range (60_exceptions.md R244). -/
inductive Accessor where
  | cartReadRom | cartWriteRom | cartReadRam | cartWriteRam | vram | oam | frameBuffer | setInterruptFlag
deriving DecidableEq, Repr

/-- Why the machine stops with a fault. -/
inductive Fault where
  /-- Raised by the checked accessors of Machine/Accessors.lean when their argument is outside the
  accessor's declared range (R244, R241): a caller's bug. Safe: the step calls no accessor outside its
  range and never answers it. -/
  | precondition (accessor : Accessor)
deriving DecidableEq, Repr

/-- Why an instruction has no meaning, or a launch is refused. -/
inductive Refusal where
  /-- Raised by an arm of `exec` for an instruction that is not modelled yet; no arm does. Safe. -/
  | notModelled (mnemonic : String)
  /-- Raised by `Launch.withBoot` for `BOOT_OVERLAY = true` without a `BOOT_ROM`: "Without it a model
  must refuse" it (93_implementation_defined.md U10). Safe; no step answers it. -/
  | bootRomMissing
deriving DecidableEq, Repr

/-- What running one instruction or one step answers. -/
abbrev Result := Host.Outcome State Fault Refusal

/-- The fetcher at reset (R49, R266). -/
def Fetcher.reset : Fetcher :=
  { kind := .bg, stage := .s0, sub := 0, tile := 0, addr := 0, lo := 0, hi := 0, slot := 0 }

/-- The PPU at reset (R49, R266): mode 2, everything else 0, empty or false. -/
def Ppu.reset : Ppu :=
  { mode := .scan, dot := 0, fetcher := Fetcher.reset, fetchX := 0, winFetchX := 0, sprites := [],
    fifo := [], lx := 0, discard := 0, windowActive := false, wyReached := false,
    windowEngaged := false, windowLine := 0, fb := [], frameDone := false }

/-- The CPU at reset without boot overlay, with the default register pattern (R266, R267). -/
def Cpu.reset : Cpu :=
  { a := 0x01, f := 0xB0, b := 0x00, c := 0x13, d := 0x00, e := 0xD8, h := 0x01, l := 0x4D,
    sp := 0xFFFE, pc := 0x0100, ime := false, halted := false, cycle := 0, spent := 0 }

/-- The CPU at reset under `BOOT_OVERLAY` (R267): `PC = 0x0000`, all other registers zero. -/
def Cpu.resetBoot : Cpu :=
  { a := 0, f := 0, b := 0, c := 0, d := 0, e := 0, h := 0, l := 0,
    sp := 0, pc := 0, ime := false, halted := false, cycle := 0, spent := 0 }

/-- No button held (R51). -/
def Held.none : Held :=
  { right := false, left := false, up := false, down := false,
    a := false, b := false, select := false, start := false }

/-- The launch arguments at their defaults (R8). -/
def Launch.default : Launch :=
  { params := Params.default, boot := none, initMem := [], initVram := [], initOam := [],
    hostEvents := [], updates := 0 }

/-- The machine right after construction and `Reset()` with the default launch arguments: no cartridge,
memory all zero (R265, R266). -/
def State.reset : State :=
  { cpu := Cpu.reset, mem := [], vram := [], oam := [], timer := { divAcc := 0, timaAcc := 0 },
    ppu := Ppu.reset, cart := Option.none, overlayActive := false, held := Held.none,
    serialOut := [], launch := Launch.default }

end Sys2Proof.Machine
end

