-- ==== Sys2Proof/Machine/Memory.lean ====
section
/-! DEFINITION. Reading and writing a sparse store, and laying out a byte sequence as one. A write
keeps the canonical form whatever the store held (Laws/Memory.lean). -/

namespace Sys2Proof

/-- The value at key `a`; an unlisted key reads as zero (R30, log 2). -/
def Store.read {w : Nat} : Store w → Nat → BitVec w
  | [], _ => 0#w
  | (k, v) :: m, a => if k = a then v else Store.read m a

/-- The store without an entry for `a`. -/
def Store.erase {w : Nat} (m : Store w) (a : Nat) : Store w :=
  m.filter (fun x => x.1 != a)

/-- Put an entry before the first greater key. -/
def Store.insert {w : Nat} (a : Nat) (v : BitVec w) : Store w → Store w
  | [] => [(a, v)]
  | (k, x) :: m => if a < k then (a, v) :: (k, x) :: m else (k, x) :: Store.insert a v m

/-- The store with `v` at key `a`. -/
def Store.write {w : Nat} (m : Store w) (a : Nat) (v : BitVec w) : Store w :=
  if v = 0#w then Store.erase m a else Store.insert a v (Store.erase m a)

/-- The bytes of a list at keys `start`, `start + 1`, … -/
def Store.ofBytes (start : Nat) : List Byte → Memory
  | [] => []
  | x :: xs => if x = 0#8 then Store.ofBytes (start + 1) xs else (start, x) :: Store.ofBytes (start + 1) xs

end Sys2Proof
end

