-- ==== Sys2Proof/Machine/Mapper.lean ====
section
/-! DEFINITION. The cartridge and its two mapper kinds (52_cartridge_mapper.md): header, load-time
tables and checks, bank selection, the four accessors. -/

namespace Sys2Proof.Machine

/-- One 16 KiB ROM bank. -/
def romBankBytes : Nat := 16384

/-- One 8 KiB RAM bank. -/
def ramBankBytes : Nat := 8192

/-- The type table (R232); any other byte fails the load. -/
def cartKindOf (t : Byte) : Option CartKind :=
  if t = 0x00#8 ∨ t = 0x08#8 ∨ t = 0x09#8 then some .none
  else if t = 0x01#8 ∨ t = 0x02#8 ∨ t = 0x03#8 then some .mbc1
  else Option.none

/-- The ROM-size table as a bank count: `32 KiB << c` for `c` in 0..8 (R233). -/
def romBanksOf (code : Byte) : Option Nat :=
  if code.toNat ≤ 8 then some (2 * 2 ^ code.toNat) else Option.none

/-- The RAM-size table in bytes (R233). -/
def ramSizeOf (code : Byte) : Option Nat :=
  if code = 0x00#8 then some 0
  else if code = 0x01#8 then some 2048
  else if code = 0x02#8 then some 8192
  else if code = 0x03#8 then some 32768
  else if code = 0x04#8 then some 131072
  else if code = 0x05#8 then some 65536
  else Option.none

/-- Byte `i` of an image. -/
def imageByte (image : List Byte) (i : Nat) : Byte := image.getD i 0#8

/-- The header checksum over bytes 0x0134 to 0x014C: `sum <- (sum - byte - 1) mod 256` (R231). -/
def headerChecksum (image : List Byte) : Byte :=
  ((image.drop 0x0134).take 25).foldl (fun sum x => sum - x - 1#8) 0#8

/-- `ParseHeader`, with `checksum_ok` (R229, R230). -/
def parseHeader (image : List Byte) : Header :=
  { title := (image.drop 0x0134).take 16
    newLicensee := (image.drop 0x0144).take 2
    cartType := imageByte image 0x0147
    romSizeCode := imageByte image 0x0148
    ramSizeCode := imageByte image 0x0149
    destination := imageByte image 0x014A
    oldLicensee := imageByte image 0x014B
    version := imageByte image 0x014C
    checksum := imageByte image 0x014D
    checksumOk := headerChecksum image == imageByte image 0x014D }

/-- The cartridge that a successful `LoadROM` inserts, or `none` where the load fails (R229). The image
is truncated or zero-padded to the declared ROM size. -/
def cartOfImage (image : List Byte) : Option Cart :=
  if image.length = 0 ∨ image.length % romBankBytes ≠ 0 then Option.none
  else
    match cartKindOf (imageByte image 0x0147), romBanksOf (imageByte image 0x0148),
        ramSizeOf (imageByte image 0x0149) with
    | some kind, some banks, some ramSize =>
      some
        { kind := kind, header := parseHeader image,
          rom := Store.ofBytes 0 (image.take (romBankBytes * banks)), romBanks := banks,
          ram := [], ramSize := ramSize,
          bank1 := 1#5, bank2 := 0#2, ramEn := false, mode := false }
    | _, _, _ => Option.none

/-- The mapper registers at their post-load values (R229, R266). -/
def Cart.resetRegisters (c : Cart) : Cart :=
  { c with bank1 := 1#5, bank2 := 0#2, ramEn := false, mode := false }

/-- The selected ROM bank for address `a` on the rotating-bank controller, masked to the bank count
(R236, R237). -/
def Cart.romBank (c : Cart) (a : Word) : Nat :=
  let bank :=
    if a < 0x4000#16 then (if c.mode then c.bank2.toNat * 32 else 0)
    else c.bank2.toNat * 32 + c.bank1.toNat
  bank % c.romBanks

/-- The byte of `rom` that address `a` of 0x0000-0x7FFF names (R234, R236). -/
def Cart.romIndex (c : Cart) (a : Word) : Nat :=
  match c.kind with
  | .none => a.toNat
  | .mbc1 => romBankBytes * c.romBank a + (a &&& 0x3FFF#16).toNat

/-- `ReadROM(a)` without the overlay (R234, R236). -/
def Cart.readRom (c : Cart) (a : Word) : Byte := Store.read c.rom (c.romIndex a)

/-- `WriteROM(a, v)`: no ROM byte changes; on the rotating-bank controller one of four registers,
selected by `a[14:13]`, is set (R234, R235). -/
def Cart.writeRom (c : Cart) (a : Word) (v : Byte) : Cart :=
  match c.kind with
  | .none => c
  | .mbc1 =>
    if a ≤ 0x1FFF#16 then { c with ramEn := v &&& 0x0F#8 == 0x0A#8 }
    else if a ≤ 0x3FFF#16 then
      let b := v.extractLsb' 0 5
      { c with bank1 := if b = 0#5 then 1#5 else b }
    else if a ≤ 0x5FFF#16 then { c with bank2 := v.extractLsb' 0 2 }
    else { c with mode := bitOf v 0 }

/-- The byte of `ram` that address `a` of 0xA000-0xBFFF names, or `none` where the RAM is absent or
disabled (R234, R238, R239). -/
def Cart.ramIndex (c : Cart) (a : Word) : Option Nat :=
  if c.ramSize = 0 then Option.none
  else
    match c.kind with
    | .none => some ((a - 0xA000#16).toNat % c.ramSize)
    | .mbc1 =>
      if c.ramEn then
        let rb := if c.mode then c.bank2.toNat else 0
        some ((ramBankBytes * rb + (a - 0xA000#16).toNat) % c.ramSize)
      else Option.none

/-- `ReadRAM(a)`: the sentinel 0xFF where RAM is absent or disabled (R234, R238). -/
def Cart.readRam (c : Cart) (a : Word) : Byte :=
  match c.ramIndex a with
  | some i => Store.read c.ram i
  | Option.none => 0xFF#8

/-- `WriteRAM(a, v)`: discarded where RAM is absent or disabled (R234, R239). -/
def Cart.writeRam (c : Cart) (a : Word) (v : Byte) : Cart :=
  match c.ramIndex a with
  | some i => { c with ram := Store.write c.ram i v }
  | Option.none => c

end Sys2Proof.Machine
end

