-- ==== Sys2Proof/Machine/Ops.lean ====
section
/-! DEFINITION. The named operations over registers and memory: register and pair access, the memory
bus with its side effects (20_memory.md), the stack (41_load16_stack.md R106, R107), the interrupt
flags and interrupt entry and return (60_exceptions.md R246, R250, R251), and how an instruction
completes. -/

namespace Sys2Proof.Machine

/-! ## Registers -/

/-- `x[r]` (R10). -/
def Cpu.reg (c : Cpu) : Reg8 → Byte
  | .b => c.b | .c => c.c | .d => c.d | .e => c.e | .h => c.h | .l => c.l | .a => c.a

/-- `x[r] <- v` (R10). -/
def Cpu.setReg (c : Cpu) (r : Reg8) (v : Byte) : Cpu :=
  match r with
  | .b => { c with b := v } | .c => { c with c := v } | .d => { c with d := v }
  | .e => { c with e := v } | .h => { c with h := v } | .l => { c with l := v }
  | .a => { c with a := v }

/-- `x[F] <- v`: every write of `F` stores `v & 0xF0` (R18). -/
def Cpu.setF (c : Cpu) (v : Byte) : Cpu := { c with f := v &&& 0xF0#8 }

/-- `xx[rr]` for `rr` in `BC DE HL SP` (R17, R73). -/
def Cpu.pair (c : Cpu) : Pair → Word
  | .bc => mkWord c.b c.c | .de => mkWord c.d c.e | .hl => mkWord c.h c.l | .sp => c.sp

/-- `xx[rr] <- v` (R17): the high byte goes to the first register of the name. -/
def Cpu.setPair (c : Cpu) (p : Pair) (v : Word) : Cpu :=
  match p with
  | .bc => { c with b := hiByte v, c := loByte v }
  | .de => { c with d := hiByte v, e := loByte v }
  | .hl => { c with h := hiByte v, l := loByte v }
  | .sp => { c with sp := v }

/-- `xx[qq]` for `qq` in `BC DE HL AF` (R17, R74); `AF` reads with bits 3:0 zero. -/
def Cpu.stackPair (c : Cpu) : StackPair → Word
  | .bc => mkWord c.b c.c | .de => mkWord c.d c.e | .hl => mkWord c.h c.l
  | .af => mkWord c.a (c.f &&& 0xF0#8)

/-- `xx[qq] <- v` (R17): `AF` writes `F` through its mask (R18, R114). -/
def Cpu.setStackPair (c : Cpu) (q : StackPair) (v : Word) : Cpu :=
  match q with
  | .bc => { c with b := hiByte v, c := loByte v }
  | .de => { c with d := hiByte v, e := loByte v }
  | .hl => { c with h := hiByte v, l := loByte v }
  | .af => { c with a := hiByte v }.setF (loByte v)

/-- `xx[HL]`. -/
def Cpu.hl (c : Cpu) : Word := c.pair .hl

/-- `pc <- v` (R21). -/
def Cpu.withPc (c : Cpu) (v : Word) : Cpu := { c with pc := v }

/-- `SP <- v` (R20). -/
def Cpu.withSp (c : Cpu) (v : Word) : Cpu := { c with sp := v }

/-- `IME <- v` (R25). -/
def Cpu.withIme (c : Cpu) (v : Bool) : Cpu := { c with ime := v }

/-- `halted <- v` (R26). -/
def Cpu.withHalted (c : Cpu) (v : Bool) : Cpu := { c with halted := v }

/-- The state with its CPU changed and nothing else. -/
def State.withCpu (s : State) (c : Cpu) : State := { s with cpu := c }

/-! ## The memory bus -/

/-- The joypad register as read (R60): `0xC0 | sel | low`. -/
def joypadByte (stored : Byte) (held : Held) : Byte :=
  let sel := stored &&& 0x30#8
  let dir := !bitOf sel 4
  let act := !bitOf sel 5
  let low (k : Nat) (d a : Bool) : Byte := if (dir && d) || (act && a) then 0#8 else bitMask k
  0xC0#8 ||| sel ||| low 0 held.right held.a ||| low 1 held.left held.b
    ||| low 2 held.up held.select ||| low 3 held.down held.start

/-- The boot program's byte that the active overlay shows at address `a`, if it shows one: below
0x0100 (R240). -/
def bootByte (a : Word) (s : State) : Option Byte :=
  if s.overlayActive then s.launch.boot.bind (fun rom => rom[a.toNat]?) else none

/-- `Read(a)` (R53): a pure function of the state (R64). -/
def busRead (a : Word) (s : State) : Byte :=
  match regionOf a with
  | .cartRom =>
    match s.cart with
    | some c => (bootByte a s).getD (c.readRom a)
    | none => 0x00#8
  | .vram => Store.read s.vram (vramIndex a)
  | .cartRam =>
    match s.cart with
    | some c => c.readRam a
    | none => 0x00#8
  | .oam => Store.read s.oam (oamIndex a)
  | .internal =>
    if a = s.io.joyp then joypadByte (Store.read s.mem a.toNat) s.held else Store.read s.mem a.toNat

/-- One byte of the OAM copy: `OAM[i] <- Read((v << 8) + i)` (R58). -/
def dmaByte (v : Byte) (s : State) (i : Nat) : State :=
  { s with oam := Store.write s.oam i (busRead (mkWord v 0#8 + BitVec.ofNat 16 i) s) }

/-- OAM DMA: 160 bytes from page `v`, in ascending order, at once (R58). -/
def dmaCopy (v : Byte) (s : State) : State := (List.range 160).foldl (dmaByte v) s

/-- The serial diagnostic hook: SB is appended to the output (R59). -/
def serialEmit (s : State) : State :=
  { s with serialOut := s.serialOut ++ [Store.read s.mem s.io.sb.toNat] }

/-- `Write(a, v)` (R54), with the two side effects of R57. -/
def busWrite (a : Word) (v : Byte) (s : State) : State :=
  match regionOf a with
  | .cartRom => { s with cart := s.cart.map (fun c => c.writeRom a v) }
  | .vram => { s with vram := Store.write s.vram (vramIndex a) v }
  | .cartRam => { s with cart := s.cart.map (fun c => c.writeRam a v) }
  | .oam => { s with oam := Store.write s.oam (oamIndex a) v }
  | .internal =>
    let s' := { s with mem := Store.write s.mem a.toNat v }
    if a = s.io.dma then dmaCopy v s'
    else if a = s.io.sc ∧ v = s.params.serialStart then serialEmit s'
    else s'

/-- Whether a store to address `a` in state `s` can change what address `x` reads as (R54, R58, R235,
R239): the stored byte itself; for a mapper register the ROM and cartridge RAM windows; for cartridge
RAM every address that names the same RAM byte; for the DMA trigger also all of OAM. -/
def storeReaches (a : Word) (s : State) (x : Word) : Prop :=
  match regionOf a with
  | .cartRom =>
    (∃ c, s.cart = some c ∧ c.kind = .mbc1) ∧ (regionOf x = .cartRom ∨ regionOf x = .cartRam)
  | .vram => x = a
  | .cartRam =>
    regionOf x = .cartRam ∧ ∃ c i, s.cart = some c ∧ c.ramIndex a = some i ∧ c.ramIndex x = some i
  | .oam => x = a
  | .internal => x = a ∨ (a = s.io.dma ∧ regionOf x = .oam)

/-! ## The stack -/

/-- `Push16(v)` (R106): high byte at `SP - 1`, then low byte at `SP - 2`. -/
def push16 (v : Word) (s : State) : State :=
  let s1 := s.withCpu (s.cpu.withSp (s.cpu.sp - 1#16))
  let s2 := busWrite s1.cpu.sp (hiByte v) s1
  let s3 := s2.withCpu (s2.cpu.withSp (s2.cpu.sp - 1#16))
  busWrite s3.cpu.sp (loByte v) s3

/-- The value `Pop16()` answers (R107): low byte at `SP`, high byte at `SP + 1`. -/
def popValue (s : State) : Word := mkWord (busRead (s.cpu.sp + 1#16) s) (busRead s.cpu.sp s)

/-- The state after `Pop16()` (R107): reads change nothing (R64), `SP` grows by 2. -/
def popState (s : State) : State := s.withCpu (s.cpu.withSp (s.cpu.sp + 1#16 + 1#16))

/-! ## Interrupts -/

/-- `SetInterruptFlag(bit, value)` (R246, D31). -/
def setInterruptFlag (i : Nat) (value : Bool) (s : State) : State :=
  let f := busRead s.io.iflag s
  busWrite s.io.iflag (if value then setBit f i else clearBit f i) s

/-- `IE & IF & 0x1F` (R248). -/
def pendingInterrupts (s : State) : Byte := busRead s.io.ienable s &&& busRead s.io.iflag s &&& 0x1F#8

/-- The least set bit among bits 0 to 4 (R249); used on a nonzero `pending` only. -/
def lowestInterrupt (pending : Byte) : Nat :=
  if bitOf pending 0 then 0
  else if bitOf pending 1 then 1
  else if bitOf pending 2 then 2
  else if bitOf pending 3 then 3
  else 4

/-! ## Completing an instruction -/

/-- The number of an instruction's opcode, as `opcode_table.json` numbers them (R86):
`byte0 * 256 + byte1` for the extended table, `byte0 * 256` for the primary one. -/
def opcodeOf (i : Instr) : Nat :=
  match encode i with
  | b0 :: b1 :: _ => if b0 = 0xCB#8 then 256 * b0.toNat + b1.toNat else 256 * b0.toNat
  | [b0] => 256 * b0.toNat
  | [] => 0

/-- `CYCLES(op)` of an instruction (R8, R13): the parameter, `table` (its entry of R85) by default. -/
def State.cyclesOf (s : State) (i : Instr) (table : Nat) : Nat :=
  (s.params.cycles.lookup (opcodeOf i)).getD table

/-- `CYCLES_NT(op)` of a conditional instruction (R8, R85), likewise. -/
def State.cyclesNotTakenOf (s : State) (i : Instr) (table : Nat) : Nat :=
  (s.params.cyclesNotTaken.lookup (opcodeOf i)).getD table

/-- `CPU.Step()` returns `c` cycles: the counter advances modulo `CLOCK` and the number is handed to the
devices (R13, R27, R248). -/
def Cpu.retire (c : Cpu) (clock cycles : Nat) : Cpu :=
  { c with cycle := (c.cycle + cycles) % clock, spent := cycles }

/-- Complete an instruction that is not a taken transfer: `pc <- pc + length` (R21), `cycles`
returned. -/
def complete (length cycles : Nat) (s : State) : Result :=
  .next (s.withCpu ((s.cpu.withPc (s.cpu.pc + BitVec.ofNat 16 length)).retire s.params.clock cycles))

/-- Complete a taken transfer of control: `pc <- target` (R21), `cycles` returned. -/
def completeAt (target : Word) (cycles : Nat) (s : State) : Result :=
  .next (s.withCpu ((s.cpu.withPc target).retire s.params.clock cycles))

/-- `Dispatch(i)`, interrupt entry (R250): clear `IF[i]`, clear `IME`, push `PC`, go to the vector;
`INT_CYCLES` are returned. -/
def dispatchInterrupt (i : Nat) (s : State) : Result :=
  let s1 := setInterruptFlag i false s
  let s2 := s1.withCpu (s1.cpu.withIme false)
  completeAt (s.params.vectors.of i) s.params.intCycles (push16 s2.cpu.pc s2)

/-- Return from an interrupt handler, `RETI` (R189, R251): `IME <- 1; pc <- Pop16()`. -/
def returnFromInterrupt (cycles : Nat) (s : State) : Result :=
  let s1 := s.withCpu (s.cpu.withIme true)
  completeAt (popValue s1) cycles (popState s1)

end Sys2Proof.Machine
end

