-- ==== Sys2Proof/Machine/Flags.lean ====
section
/-! DEFINITION. Every flag computation (10_state.md R22, R24; 42_alu8.md R115, R116 and the flag lines
of files 41 to 44), as functions of the operands. -/

namespace Sys2Proof.Machine

/-- `F` from its four flags: `Z N H C` in bits 7 to 4 (R18). -/
def packFlags (z n h c : Bool) : Byte :=
  (bit0 z <<< 7) ||| (bit0 n <<< 6) ||| (bit0 h <<< 5) ||| (bit0 c <<< 4)

/-- `F.Z`. -/
def Cpu.flagZ (c : Cpu) : Bool := bitOf c.f 7
/-- `F.N`. -/
def Cpu.flagN (c : Cpu) : Bool := bitOf c.f 6
/-- `F.H`. -/
def Cpu.flagH (c : Cpu) : Bool := bitOf c.f 5
/-- `F.C`. -/
def Cpu.flagC (c : Cpu) : Bool := bitOf c.f 4

/-- Write all four flags (R18). -/
def Cpu.setFlags (c : Cpu) (z n h cy : Bool) : Cpu := c.setF (packFlags z n h cy)

/-- `Cond(cc)` (R75). -/
def Cpu.cond (c : Cpu) : Cond → Bool
  | .nz => !c.flagZ | .z => c.flagZ | .nc => !c.flagC | .c => c.flagC

/-- A result byte and the four flags. -/
structure AluOut where
  val : Byte
  z : Bool
  n : Bool
  h : Bool
  c : Bool
deriving DecidableEq, Repr

/-- `Add8(a, b, ci)` (R115), on naturals. -/
def add8 (a b : Byte) (ci : Bool) : AluOut :=
  let s := a.toNat + b.toNat + ci.toNat
  let r := BitVec.ofNat 8 s
  { val := r, z := r == 0#8, n := false,
    h := decide ((a &&& 0x0F#8).toNat + (b &&& 0x0F#8).toNat + ci.toNat > 0x0F),
    c := decide (s > 0xFF) }

/-- `Sub8(a, b, ci)` (R116), on integers. -/
def sub8 (a b : Byte) (ci : Bool) : AluOut :=
  let s : Int := (a.toNat : Int) - b.toNat - ci.toNat
  let r := BitVec.ofInt 8 s
  { val := r, z := r == 0#8, n := true,
    h := decide (((a &&& 0x0F#8).toNat : Int) - (b &&& 0x0F#8).toNat - ci.toNat < 0),
    c := decide (s < 0) }

/-- A logical result: `Z` from the result, `N` and `C` clear, `H` as given (R129, R132, R135). -/
def logic8 (r : Byte) (h : Bool) : AluOut := { val := r, z := r == 0#8, n := false, h := h, c := false }

/-- The eight accumulator operations (R117 to R140); `CP` computes what `SUB` does. -/
def aluResult (op : AluOp) (a b : Byte) (carry : Bool) : AluOut :=
  match op with
  | .add => add8 a b false
  | .adc => add8 a b carry
  | .sub => sub8 a b false
  | .sbc => sub8 a b carry
  | .and => logic8 (a &&& b) true
  | .xor => logic8 (a ^^^ b) false
  | .or => logic8 (a ||| b) false
  | .cp => sub8 a b false

/-- `INC` of a byte (R141): `C` is passed through. -/
def inc8 (v : Byte) (carry : Bool) : AluOut :=
  { val := v + 1#8, z := v == 0xFF#8, n := false, h := v &&& 0x0F#8 == 0x0F#8, c := carry }

/-- `DEC` of a byte (R143): `C` is passed through. -/
def dec8 (v : Byte) (carry : Bool) : AluOut :=
  { val := v - 1#8, z := v == 0x01#8, n := true, h := v &&& 0x0F#8 == 0x00#8, c := carry }

/-- `DAA` (R145): both tests of the add case are made on the original accumulator (D27). -/
def daa8 (a : Byte) (n h c : Bool) : AluOut :=
  if n then
    let adj : Byte := (if h then 0x06#8 else 0#8) ||| (if c then 0x60#8 else 0#8)
    let r := a - adj
    { val := r, z := r == 0#8, n := n, h := false, c := c }
  else
    let low : Bool := h || decide ((a &&& 0x0F#8).toNat > 0x09)
    let high : Bool := c || decide (a.toNat > 0x99)
    let adj : Byte := (if low then 0x06#8 else 0#8) ||| (if high then 0x60#8 else 0#8)
    let r := a + adj
    { val := r, z := r == 0#8, n := n, h := false, c := c || high }

/-- The result and carry-out of the eight rotate and shift operations (R157 to R172); `carry` is the old
`F.C`. -/
def rotate8 (op : RotOp) (v : Byte) (carry : Bool) : Byte × Bool :=
  match op with
  | .rlc => (v.extractLsb' 0 7 ++ BitVec.ofBool (bitOf v 7), bitOf v 7)
  | .rrc => (BitVec.ofBool (bitOf v 0) ++ v.extractLsb' 1 7, bitOf v 0)
  | .rl => (v.extractLsb' 0 7 ++ BitVec.ofBool carry, bitOf v 7)
  | .rr => (BitVec.ofBool carry ++ v.extractLsb' 1 7, bitOf v 0)
  | .sla => (v.extractLsb' 0 7 ++ 0#1, bitOf v 7)
  | .sra => (BitVec.ofBool (bitOf v 7) ++ v.extractLsb' 1 7, bitOf v 0)
  | .swap => (v.extractLsb' 0 4 ++ v.extractLsb' 4 4, false)
  | .srl => (0#1 ++ v.extractLsb' 1 7, bitOf v 0)

/-- The extended-table rotates: `Z` from the result, `N` and `H` clear (R157 to R172). -/
def rotResult (op : RotOp) (v : Byte) (carry : Bool) : AluOut :=
  let (r, c) := rotate8 op v carry
  { val := r, z := r == 0#8, n := false, h := false, c := c }

/-- The half-carry of `ADD HL,rr`: both operands masked to 12 bits (R149, C8). -/
def halfCarry16 (a b : Word) : Bool :=
  decide ((a &&& 0x0FFF#16).toNat + (b &&& 0x0FFF#16).toNat > 0x0FFF)

/-- The carry of `ADD HL,rr` (R149). -/
def carry16 (a b : Word) : Bool := decide (a.toNat + b.toNat > 0xFFFF)

/-- The half-carry of `SP + e8`: the unsigned low-nibble addition (R111, R152). -/
def halfCarrySp (sp : Word) (n8 : Byte) : Bool :=
  decide ((sp &&& 0x000F#16).toNat + (n8 &&& 0x0F#8).toNat > 0x0F)

/-- The carry of `SP + e8`: the unsigned low-byte addition (R111, R152). -/
def carrySp (sp : Word) (n8 : Byte) : Bool :=
  decide ((sp &&& 0x00FF#16).toNat + n8.toNat > 0xFF)

end Sys2Proof.Machine
end

