-- ==== Sys2Proof/Machine/Operands.lean ====
section
/-! DEFINITION. The operand forms: how an operand is read and written back, and the addresses the
memory forms use (30_encoding.md R72, R79; files 40 to 44). -/

namespace Sys2Proof.Machine

/-- `x[r]`. -/
def State.reg (s : State) (r : Reg8) : Byte := s.cpu.reg r

/-- `x[r] <- v`. -/
def State.setReg (s : State) (r : Reg8) (v : Byte) : State := s.withCpu (s.cpu.setReg r v)

/-- `xx[rr]`. -/
def State.pair (s : State) (p : Pair) : Word := s.cpu.pair p

/-- `xx[rr] <- v`. -/
def State.setPair (s : State) (p : Pair) (v : Word) : State := s.withCpu (s.cpu.setPair p v)

/-- Write the four flags. -/
def State.setFlags (s : State) (z n h c : Bool) : State := s.withCpu (s.cpu.setFlags z n h c)

/-- Write the four flags of an operation's result. -/
def State.setAluFlags (s : State) (r : AluOut) : State := s.setFlags r.z r.n r.h r.c

/-- An 8-bit operand: a register, or `Read(xx[HL])` (R72). -/
def State.operand (s : State) : Operand8 → Byte
  | .reg r => s.reg r
  | .mhl => busRead (s.pair .hl) s

/-- Write an 8-bit operand back: a register, or `Write(xx[HL], v)` (R63, R72). -/
def State.setOperand (s : State) (o : Operand8) (v : Byte) : State :=
  match o with
  | .reg r => s.setReg r v
  | .mhl => busWrite (s.pair .hl) v s

/-- The high-page address `0xFF00 + offset` (R79, R98): never carries out of the page. -/
def highPage (offset : Byte) : Word := 0xFF00#16 + zext16 offset

/-- `SP + sext_16(e8)` (R111, R152). -/
def spPlus (sp : Word) (e8 : Byte) : Word := sp + sext16 e8

/-- The target of a relative jump: `pc + 2 + sext_16(e8)` (R182). -/
def relativeTarget (pc : Word) (e8 : Byte) : Word := pc + 2#16 + sext16 e8

end Sys2Proof.Machine
end

