-- ==== Sys2Proof/Machine/Load16.lean ====
section
/-! DEFINITION. 16-bit loads and the stack instructions (41_load16_stack.md R108 to R114). -/

namespace Sys2Proof.Machine

/-- Load a 16-bit value into a pair or `SP` (R108, R110). -/
def loadPair (p : Pair) (v : Word) (length cycles : Nat) (s : State) : Result :=
  complete length cycles (s.setPair p v)

/-- Store `SP` at an address, low byte first (R109). -/
def storeSp (a : Word) (length cycles : Nat) (s : State) : Result :=
  complete length cycles (busWrite (a + 1#16) (hiByte s.cpu.sp) (busWrite a (loByte s.cpu.sp) s))

/-- `SP + e8` into a pair, with its flags: `LD HL,SP+e8` and `ADD SP,e8` (R111, R152). -/
def spSum (p : Pair) (e8 : Byte) (length cycles : Nat) (s : State) : Result :=
  complete length cycles
    ((s.setPair p (spPlus s.cpu.sp e8)).setFlags false false
      (halfCarrySp s.cpu.sp e8) (carrySp s.cpu.sp e8))

/-- `PUSH qq` (R112). -/
def pushPair (q : StackPair) (cycles : Nat) (s : State) : Result :=
  complete 1 cycles (push16 (s.cpu.stackPair q) s)

/-- `POP qq` (R113, R114). -/
def popPair (q : StackPair) (cycles : Nat) (s : State) : Result :=
  let s1 := popState s
  complete 1 cycles (s1.withCpu (s1.cpu.setStackPair q (popValue s)))

/-- `LD BC,n16` (R108). -/
def execLdBcN16 (n16 : Word) (s : State) : Result :=
  loadPair .bc n16 3 (s.cyclesOf (.ld_bc_n16 n16) 3) s

/-- `LD (a16),SP` (R109). -/
def execLdMa16Sp (a16 : Word) (s : State) : Result :=
  storeSp a16 3 (s.cyclesOf (.ld_ma16_sp a16) 5) s

/-- `LD DE,n16` (R108). -/
def execLdDeN16 (n16 : Word) (s : State) : Result :=
  loadPair .de n16 3 (s.cyclesOf (.ld_de_n16 n16) 3) s

/-- `LD HL,n16` (R108). -/
def execLdHlN16 (n16 : Word) (s : State) : Result :=
  loadPair .hl n16 3 (s.cyclesOf (.ld_hl_n16 n16) 3) s

/-- `LD SP,n16` (R108). -/
def execLdSpN16 (n16 : Word) (s : State) : Result :=
  loadPair .sp n16 3 (s.cyclesOf (.ld_sp_n16 n16) 3) s

/-- `POP BC` (R113). -/
def execPopBc (s : State) : Result := popPair .bc (s.cyclesOf .pop_bc 3) s

/-- `PUSH BC` (R112). -/
def execPushBc (s : State) : Result := pushPair .bc (s.cyclesOf .push_bc 4) s

/-- `POP DE` (R113). -/
def execPopDe (s : State) : Result := popPair .de (s.cyclesOf .pop_de 3) s

/-- `PUSH DE` (R112). -/
def execPushDe (s : State) : Result := pushPair .de (s.cyclesOf .push_de 4) s

/-- `POP HL` (R113). -/
def execPopHl (s : State) : Result := popPair .hl (s.cyclesOf .pop_hl 3) s

/-- `PUSH HL` (R112). -/
def execPushHl (s : State) : Result := pushPair .hl (s.cyclesOf .push_hl 4) s

/-- `POP AF` (R114). -/
def execPopAf (s : State) : Result := popPair .af (s.cyclesOf .pop_af 3) s

/-- `PUSH AF` (R112). -/
def execPushAf (s : State) : Result := pushPair .af (s.cyclesOf .push_af 4) s

/-- `LD HL,SP+e8` (R111). -/
def execLdHlSpe8 (e8 : Byte) (s : State) : Result :=
  spSum .hl e8 2 (s.cyclesOf (.ld_hl_spe8 e8) 3) s

/-- `LD SP,HL` (R110). -/
def execLdSpHl (s : State) : Result := loadPair .sp (s.pair .hl) 1 (s.cyclesOf .ld_sp_hl 2) s

end Sys2Proof.Machine
end

