-- ==== Sys2Proof/Machine/Alu16.lean ====
section
/-! DEFINITION. 16-bit arithmetic (43_alu16.md R149 to R152). -/

namespace Sys2Proof.Machine

/-- `ADD HL,rr` (R149): `Z` is passed through. -/
def addHlPair (p : Pair) (cycles : Nat) (s : State) : Result :=
  let a := s.pair .hl
  let b := s.pair p
  complete 1 cycles ((s.setPair .hl (a + b)).setFlags s.cpu.flagZ false (halfCarry16 a b) (carry16 a b))

/-- `INC rr` and `DEC rr`: the pair moves by `d`, no flag changes (R150, R151). -/
def stepPair (p : Pair) (d : Word) (cycles : Nat) (s : State) : Result :=
  complete 1 cycles (s.setPair p (s.pair p + d))

/-- `INC BC` (R150). -/
def execIncBc (s : State) : Result := stepPair .bc 1#16 (s.cyclesOf .inc_bc 2) s

/-- `ADD HL,BC` (R149). -/
def execAddHlBc (s : State) : Result := addHlPair .bc (s.cyclesOf .add_hl_bc 2) s

/-- `DEC BC` (R151). -/
def execDecBc (s : State) : Result := stepPair .bc (-1#16) (s.cyclesOf .dec_bc 2) s

/-- `INC DE` (R150). -/
def execIncDe (s : State) : Result := stepPair .de 1#16 (s.cyclesOf .inc_de 2) s

/-- `ADD HL,DE` (R149). -/
def execAddHlDe (s : State) : Result := addHlPair .de (s.cyclesOf .add_hl_de 2) s

/-- `DEC DE` (R151). -/
def execDecDe (s : State) : Result := stepPair .de (-1#16) (s.cyclesOf .dec_de 2) s

/-- `INC HL` (R150). -/
def execIncHl (s : State) : Result := stepPair .hl 1#16 (s.cyclesOf .inc_hl 2) s

/-- `ADD HL,HL` (R149). -/
def execAddHlHl (s : State) : Result := addHlPair .hl (s.cyclesOf .add_hl_hl 2) s

/-- `DEC HL` (R151). -/
def execDecHl (s : State) : Result := stepPair .hl (-1#16) (s.cyclesOf .dec_hl 2) s

/-- `INC SP` (R150). -/
def execIncSp (s : State) : Result := stepPair .sp 1#16 (s.cyclesOf .inc_sp 2) s

/-- `ADD HL,SP` (R149). -/
def execAddHlSp (s : State) : Result := addHlPair .sp (s.cyclesOf .add_hl_sp 2) s

/-- `DEC SP` (R151). -/
def execDecSp (s : State) : Result := stepPair .sp (-1#16) (s.cyclesOf .dec_sp 2) s

/-- `ADD SP,e8` (R152). -/
def execAddSpE8 (e8 : Byte) (s : State) : Result := spSum .sp e8 2 (s.cyclesOf (.add_sp_e8 e8) 4) s

end Sys2Proof.Machine
end

