-- ==== Sys2Proof/Machine/Alu8.lean ====
section
/-! DEFINITION. 8-bit arithmetic and logic (42_alu8.md R117 to R148). -/

namespace Sys2Proof.Machine

/-- An accumulator operation with operand value `b` (R117 to R140): `CP` writes the flags only. -/
def aluOnA (op : AluOp) (b : Byte) (length cycles : Nat) (s : State) : Result :=
  let r := aluResult op (s.reg .a) b s.cpu.flagC
  let s1 := if op = .cp then s else s.setReg .a r.val
  complete length cycles (s1.setAluFlags r)

/-- `INC` of an 8-bit operand (R141, R142). -/
def incOperand (o : Operand8) (cycles : Nat) (s : State) : Result :=
  let r := inc8 (s.operand o) s.cpu.flagC
  complete 1 cycles ((s.setOperand o r.val).setAluFlags r)

/-- `DEC` of an 8-bit operand (R143, R144). -/
def decOperand (o : Operand8) (cycles : Nat) (s : State) : Result :=
  let r := dec8 (s.operand o) s.cpu.flagC
  complete 1 cycles ((s.setOperand o r.val).setAluFlags r)

/-- `DAA` (R145). -/
def adjustDecimal (cycles : Nat) (s : State) : Result :=
  let r := daa8 (s.reg .a) s.cpu.flagN s.cpu.flagH s.cpu.flagC
  complete 1 cycles ((s.setReg .a r.val).setAluFlags r)

/-- `CPL` (R146). -/
def complementA (cycles : Nat) (s : State) : Result :=
  complete 1 cycles ((s.setReg .a (~~~(s.reg .a))).setFlags s.cpu.flagZ true true s.cpu.flagC)

/-- `SCF` (R147). -/
def setCarry (cycles : Nat) (s : State) : Result :=
  complete 1 cycles (s.setFlags s.cpu.flagZ false false true)

/-- `CCF` (R148). -/
def complementCarry (cycles : Nat) (s : State) : Result :=
  complete 1 cycles (s.setFlags s.cpu.flagZ false false (!s.cpu.flagC))

/-- `INC B` (R141). -/
def execIncB (s : State) : Result := incOperand (.reg .b) (s.cyclesOf .inc_b 1) s

/-- `DEC B` (R143). -/
def execDecB (s : State) : Result := decOperand (.reg .b) (s.cyclesOf .dec_b 1) s

/-- `INC C` (R141). -/
def execIncC (s : State) : Result := incOperand (.reg .c) (s.cyclesOf .inc_c 1) s

/-- `DEC C` (R143). -/
def execDecC (s : State) : Result := decOperand (.reg .c) (s.cyclesOf .dec_c 1) s

/-- `INC D` (R141). -/
def execIncD (s : State) : Result := incOperand (.reg .d) (s.cyclesOf .inc_d 1) s

/-- `DEC D` (R143). -/
def execDecD (s : State) : Result := decOperand (.reg .d) (s.cyclesOf .dec_d 1) s

/-- `INC E` (R141). -/
def execIncE (s : State) : Result := incOperand (.reg .e) (s.cyclesOf .inc_e 1) s

/-- `DEC E` (R143). -/
def execDecE (s : State) : Result := decOperand (.reg .e) (s.cyclesOf .dec_e 1) s

/-- `INC H` (R141). -/
def execIncH (s : State) : Result := incOperand (.reg .h) (s.cyclesOf .inc_h 1) s

/-- `DEC H` (R143). -/
def execDecH (s : State) : Result := decOperand (.reg .h) (s.cyclesOf .dec_h 1) s

/-- `DAA` (R145). -/
def execDaa (s : State) : Result := adjustDecimal (s.cyclesOf .daa 1) s

/-- `INC L` (R141). -/
def execIncL (s : State) : Result := incOperand (.reg .l) (s.cyclesOf .inc_l 1) s

/-- `DEC L` (R143). -/
def execDecL (s : State) : Result := decOperand (.reg .l) (s.cyclesOf .dec_l 1) s

/-- `CPL` (R146). -/
def execCpl (s : State) : Result := complementA (s.cyclesOf .cpl 1) s

/-- `INC (HL)` (R142). -/
def execIncMhl (s : State) : Result := incOperand .mhl (s.cyclesOf .inc_mhl 3) s

/-- `DEC (HL)` (R144). -/
def execDecMhl (s : State) : Result := decOperand .mhl (s.cyclesOf .dec_mhl 3) s

/-- `SCF` (R147). -/
def execScf (s : State) : Result := setCarry (s.cyclesOf .scf 1) s

/-- `INC A` (R141). -/
def execIncA (s : State) : Result := incOperand (.reg .a) (s.cyclesOf .inc_a 1) s

/-- `DEC A` (R143). -/
def execDecA (s : State) : Result := decOperand (.reg .a) (s.cyclesOf .dec_a 1) s

/-- `CCF` (R148). -/
def execCcf (s : State) : Result := complementCarry (s.cyclesOf .ccf 1) s

/-- `ADD A,B` (R117). -/
def execAddAB (s : State) : Result := aluOnA .add (s.reg .b) 1 (s.cyclesOf .add_a_b 1) s

/-- `ADD A,C` (R117). -/
def execAddAC (s : State) : Result := aluOnA .add (s.reg .c) 1 (s.cyclesOf .add_a_c 1) s

/-- `ADD A,D` (R117). -/
def execAddAD (s : State) : Result := aluOnA .add (s.reg .d) 1 (s.cyclesOf .add_a_d 1) s

/-- `ADD A,E` (R117). -/
def execAddAE (s : State) : Result := aluOnA .add (s.reg .e) 1 (s.cyclesOf .add_a_e 1) s

/-- `ADD A,H` (R117). -/
def execAddAH (s : State) : Result := aluOnA .add (s.reg .h) 1 (s.cyclesOf .add_a_h 1) s

/-- `ADD A,L` (R117). -/
def execAddAL (s : State) : Result := aluOnA .add (s.reg .l) 1 (s.cyclesOf .add_a_l 1) s

/-- `ADD A,(HL)` (R118). -/
def execAddAMhl (s : State) : Result :=
  aluOnA .add (busRead (s.pair .hl) s) 1 (s.cyclesOf .add_a_mhl 2) s

/-- `ADD A,A` (R117). -/
def execAddAA (s : State) : Result := aluOnA .add (s.reg .a) 1 (s.cyclesOf .add_a_a 1) s

/-- `ADC A,B` (R120). -/
def execAdcAB (s : State) : Result := aluOnA .adc (s.reg .b) 1 (s.cyclesOf .adc_a_b 1) s

/-- `ADC A,C` (R120). -/
def execAdcAC (s : State) : Result := aluOnA .adc (s.reg .c) 1 (s.cyclesOf .adc_a_c 1) s

/-- `ADC A,D` (R120). -/
def execAdcAD (s : State) : Result := aluOnA .adc (s.reg .d) 1 (s.cyclesOf .adc_a_d 1) s

/-- `ADC A,E` (R120). -/
def execAdcAE (s : State) : Result := aluOnA .adc (s.reg .e) 1 (s.cyclesOf .adc_a_e 1) s

/-- `ADC A,H` (R120). -/
def execAdcAH (s : State) : Result := aluOnA .adc (s.reg .h) 1 (s.cyclesOf .adc_a_h 1) s

/-- `ADC A,L` (R120). -/
def execAdcAL (s : State) : Result := aluOnA .adc (s.reg .l) 1 (s.cyclesOf .adc_a_l 1) s

/-- `ADC A,(HL)` (R121). -/
def execAdcAMhl (s : State) : Result :=
  aluOnA .adc (busRead (s.pair .hl) s) 1 (s.cyclesOf .adc_a_mhl 2) s

/-- `ADC A,A` (R120). -/
def execAdcAA (s : State) : Result := aluOnA .adc (s.reg .a) 1 (s.cyclesOf .adc_a_a 1) s

/-- `SUB A,B` (R123). -/
def execSubAB (s : State) : Result := aluOnA .sub (s.reg .b) 1 (s.cyclesOf .sub_a_b 1) s

/-- `SUB A,C` (R123). -/
def execSubAC (s : State) : Result := aluOnA .sub (s.reg .c) 1 (s.cyclesOf .sub_a_c 1) s

/-- `SUB A,D` (R123). -/
def execSubAD (s : State) : Result := aluOnA .sub (s.reg .d) 1 (s.cyclesOf .sub_a_d 1) s

/-- `SUB A,E` (R123). -/
def execSubAE (s : State) : Result := aluOnA .sub (s.reg .e) 1 (s.cyclesOf .sub_a_e 1) s

/-- `SUB A,H` (R123). -/
def execSubAH (s : State) : Result := aluOnA .sub (s.reg .h) 1 (s.cyclesOf .sub_a_h 1) s

/-- `SUB A,L` (R123). -/
def execSubAL (s : State) : Result := aluOnA .sub (s.reg .l) 1 (s.cyclesOf .sub_a_l 1) s

/-- `SUB A,(HL)` (R124). -/
def execSubAMhl (s : State) : Result :=
  aluOnA .sub (busRead (s.pair .hl) s) 1 (s.cyclesOf .sub_a_mhl 2) s

/-- `SUB A,A` (R123). -/
def execSubAA (s : State) : Result := aluOnA .sub (s.reg .a) 1 (s.cyclesOf .sub_a_a 1) s

/-- `SBC A,B` (R126). -/
def execSbcAB (s : State) : Result := aluOnA .sbc (s.reg .b) 1 (s.cyclesOf .sbc_a_b 1) s

/-- `SBC A,C` (R126). -/
def execSbcAC (s : State) : Result := aluOnA .sbc (s.reg .c) 1 (s.cyclesOf .sbc_a_c 1) s

/-- `SBC A,D` (R126). -/
def execSbcAD (s : State) : Result := aluOnA .sbc (s.reg .d) 1 (s.cyclesOf .sbc_a_d 1) s

/-- `SBC A,E` (R126). -/
def execSbcAE (s : State) : Result := aluOnA .sbc (s.reg .e) 1 (s.cyclesOf .sbc_a_e 1) s

/-- `SBC A,H` (R126). -/
def execSbcAH (s : State) : Result := aluOnA .sbc (s.reg .h) 1 (s.cyclesOf .sbc_a_h 1) s

/-- `SBC A,L` (R126). -/
def execSbcAL (s : State) : Result := aluOnA .sbc (s.reg .l) 1 (s.cyclesOf .sbc_a_l 1) s

/-- `SBC A,(HL)` (R127). -/
def execSbcAMhl (s : State) : Result :=
  aluOnA .sbc (busRead (s.pair .hl) s) 1 (s.cyclesOf .sbc_a_mhl 2) s

/-- `SBC A,A` (R126). -/
def execSbcAA (s : State) : Result := aluOnA .sbc (s.reg .a) 1 (s.cyclesOf .sbc_a_a 1) s

/-- `AND A,B` (R129). -/
def execAndAB (s : State) : Result := aluOnA .and (s.reg .b) 1 (s.cyclesOf .and_a_b 1) s

/-- `AND A,C` (R129). -/
def execAndAC (s : State) : Result := aluOnA .and (s.reg .c) 1 (s.cyclesOf .and_a_c 1) s

/-- `AND A,D` (R129). -/
def execAndAD (s : State) : Result := aluOnA .and (s.reg .d) 1 (s.cyclesOf .and_a_d 1) s

/-- `AND A,E` (R129). -/
def execAndAE (s : State) : Result := aluOnA .and (s.reg .e) 1 (s.cyclesOf .and_a_e 1) s

/-- `AND A,H` (R129). -/
def execAndAH (s : State) : Result := aluOnA .and (s.reg .h) 1 (s.cyclesOf .and_a_h 1) s

/-- `AND A,L` (R129). -/
def execAndAL (s : State) : Result := aluOnA .and (s.reg .l) 1 (s.cyclesOf .and_a_l 1) s

/-- `AND A,(HL)` (R130). -/
def execAndAMhl (s : State) : Result :=
  aluOnA .and (busRead (s.pair .hl) s) 1 (s.cyclesOf .and_a_mhl 2) s

/-- `AND A,A` (R129). -/
def execAndAA (s : State) : Result := aluOnA .and (s.reg .a) 1 (s.cyclesOf .and_a_a 1) s

/-- `XOR A,B` (R132). -/
def execXorAB (s : State) : Result := aluOnA .xor (s.reg .b) 1 (s.cyclesOf .xor_a_b 1) s

/-- `XOR A,C` (R132). -/
def execXorAC (s : State) : Result := aluOnA .xor (s.reg .c) 1 (s.cyclesOf .xor_a_c 1) s

/-- `XOR A,D` (R132). -/
def execXorAD (s : State) : Result := aluOnA .xor (s.reg .d) 1 (s.cyclesOf .xor_a_d 1) s

/-- `XOR A,E` (R132). -/
def execXorAE (s : State) : Result := aluOnA .xor (s.reg .e) 1 (s.cyclesOf .xor_a_e 1) s

/-- `XOR A,H` (R132). -/
def execXorAH (s : State) : Result := aluOnA .xor (s.reg .h) 1 (s.cyclesOf .xor_a_h 1) s

/-- `XOR A,L` (R132). -/
def execXorAL (s : State) : Result := aluOnA .xor (s.reg .l) 1 (s.cyclesOf .xor_a_l 1) s

/-- `XOR A,(HL)` (R133). -/
def execXorAMhl (s : State) : Result :=
  aluOnA .xor (busRead (s.pair .hl) s) 1 (s.cyclesOf .xor_a_mhl 2) s

/-- `XOR A,A` (R132). -/
def execXorAA (s : State) : Result := aluOnA .xor (s.reg .a) 1 (s.cyclesOf .xor_a_a 1) s

/-- `OR A,B` (R135). -/
def execOrAB (s : State) : Result := aluOnA .or (s.reg .b) 1 (s.cyclesOf .or_a_b 1) s

/-- `OR A,C` (R135). -/
def execOrAC (s : State) : Result := aluOnA .or (s.reg .c) 1 (s.cyclesOf .or_a_c 1) s

/-- `OR A,D` (R135). -/
def execOrAD (s : State) : Result := aluOnA .or (s.reg .d) 1 (s.cyclesOf .or_a_d 1) s

/-- `OR A,E` (R135). -/
def execOrAE (s : State) : Result := aluOnA .or (s.reg .e) 1 (s.cyclesOf .or_a_e 1) s

/-- `OR A,H` (R135). -/
def execOrAH (s : State) : Result := aluOnA .or (s.reg .h) 1 (s.cyclesOf .or_a_h 1) s

/-- `OR A,L` (R135). -/
def execOrAL (s : State) : Result := aluOnA .or (s.reg .l) 1 (s.cyclesOf .or_a_l 1) s

/-- `OR A,(HL)` (R136). -/
def execOrAMhl (s : State) : Result :=
  aluOnA .or (busRead (s.pair .hl) s) 1 (s.cyclesOf .or_a_mhl 2) s

/-- `OR A,A` (R135). -/
def execOrAA (s : State) : Result := aluOnA .or (s.reg .a) 1 (s.cyclesOf .or_a_a 1) s

/-- `CP A,B` (R138). -/
def execCpAB (s : State) : Result := aluOnA .cp (s.reg .b) 1 (s.cyclesOf .cp_a_b 1) s

/-- `CP A,C` (R138). -/
def execCpAC (s : State) : Result := aluOnA .cp (s.reg .c) 1 (s.cyclesOf .cp_a_c 1) s

/-- `CP A,D` (R138). -/
def execCpAD (s : State) : Result := aluOnA .cp (s.reg .d) 1 (s.cyclesOf .cp_a_d 1) s

/-- `CP A,E` (R138). -/
def execCpAE (s : State) : Result := aluOnA .cp (s.reg .e) 1 (s.cyclesOf .cp_a_e 1) s

/-- `CP A,H` (R138). -/
def execCpAH (s : State) : Result := aluOnA .cp (s.reg .h) 1 (s.cyclesOf .cp_a_h 1) s

/-- `CP A,L` (R138). -/
def execCpAL (s : State) : Result := aluOnA .cp (s.reg .l) 1 (s.cyclesOf .cp_a_l 1) s

/-- `CP A,(HL)` (R139). -/
def execCpAMhl (s : State) : Result :=
  aluOnA .cp (busRead (s.pair .hl) s) 1 (s.cyclesOf .cp_a_mhl 2) s

/-- `CP A,A` (R138). -/
def execCpAA (s : State) : Result := aluOnA .cp (s.reg .a) 1 (s.cyclesOf .cp_a_a 1) s

/-- `ADD A,n8` (R119). -/
def execAddAN8 (n8 : Byte) (s : State) : Result := aluOnA .add n8 2 (s.cyclesOf (.add_a_n8 n8) 2) s

/-- `ADC A,n8` (R122). -/
def execAdcAN8 (n8 : Byte) (s : State) : Result := aluOnA .adc n8 2 (s.cyclesOf (.adc_a_n8 n8) 2) s

/-- `SUB A,n8` (R125). -/
def execSubAN8 (n8 : Byte) (s : State) : Result := aluOnA .sub n8 2 (s.cyclesOf (.sub_a_n8 n8) 2) s

/-- `SBC A,n8` (R128). -/
def execSbcAN8 (n8 : Byte) (s : State) : Result := aluOnA .sbc n8 2 (s.cyclesOf (.sbc_a_n8 n8) 2) s

/-- `AND A,n8` (R131). -/
def execAndAN8 (n8 : Byte) (s : State) : Result := aluOnA .and n8 2 (s.cyclesOf (.and_a_n8 n8) 2) s

/-- `XOR A,n8` (R134). -/
def execXorAN8 (n8 : Byte) (s : State) : Result := aluOnA .xor n8 2 (s.cyclesOf (.xor_a_n8 n8) 2) s

/-- `OR A,n8` (R137). -/
def execOrAN8 (n8 : Byte) (s : State) : Result := aluOnA .or n8 2 (s.cyclesOf (.or_a_n8 n8) 2) s

/-- `CP A,n8` (R140). -/
def execCpAN8 (n8 : Byte) (s : State) : Result := aluOnA .cp n8 2 (s.cyclesOf (.cp_a_n8 n8) 2) s

end Sys2Proof.Machine
end

