-- ==== Sys2Proof/Machine/BitOps.lean ====
section
/-! DEFINITION. Bit test, reset and set (44_rotate_shift_bit.md R173 to R178). -/

namespace Sys2Proof.Machine

/-- `BIT b` (R173, R174): `C` is passed through, the operand is not written. -/
def testBit (b : Nat) (o : Operand8) (cycles : Nat) (s : State) : Result :=
  complete 2 cycles (s.setFlags (!bitOf (s.operand o) b) false true s.cpu.flagC)

/-- `RES b` (R175, R176). -/
def resetBitOf (b : Nat) (o : Operand8) (cycles : Nat) (s : State) : Result :=
  complete 2 cycles (s.setOperand o (clearBit (s.operand o) b))

/-- `SET b` (R177, R178). -/
def setBitOf (b : Nat) (o : Operand8) (cycles : Nat) (s : State) : Result :=
  complete 2 cycles (s.setOperand o (setBit (s.operand o) b))

/-- `BIT 0,B` (R173). -/
def execBit0B (s : State) : Result := testBit 0 (.reg .b) (s.cyclesOf .bit_0_b 2) s

/-- `BIT 0,C` (R173). -/
def execBit0C (s : State) : Result := testBit 0 (.reg .c) (s.cyclesOf .bit_0_c 2) s

/-- `BIT 0,D` (R173). -/
def execBit0D (s : State) : Result := testBit 0 (.reg .d) (s.cyclesOf .bit_0_d 2) s

/-- `BIT 0,E` (R173). -/
def execBit0E (s : State) : Result := testBit 0 (.reg .e) (s.cyclesOf .bit_0_e 2) s

/-- `BIT 0,H` (R173). -/
def execBit0H (s : State) : Result := testBit 0 (.reg .h) (s.cyclesOf .bit_0_h 2) s

/-- `BIT 0,L` (R173). -/
def execBit0L (s : State) : Result := testBit 0 (.reg .l) (s.cyclesOf .bit_0_l 2) s

/-- `BIT 0,(HL)` (R174). -/
def execBit0Mhl (s : State) : Result := testBit 0 .mhl (s.cyclesOf .bit_0_mhl 3) s

/-- `BIT 0,A` (R173). -/
def execBit0A (s : State) : Result := testBit 0 (.reg .a) (s.cyclesOf .bit_0_a 2) s

/-- `BIT 1,B` (R173). -/
def execBit1B (s : State) : Result := testBit 1 (.reg .b) (s.cyclesOf .bit_1_b 2) s

/-- `BIT 1,C` (R173). -/
def execBit1C (s : State) : Result := testBit 1 (.reg .c) (s.cyclesOf .bit_1_c 2) s

/-- `BIT 1,D` (R173). -/
def execBit1D (s : State) : Result := testBit 1 (.reg .d) (s.cyclesOf .bit_1_d 2) s

/-- `BIT 1,E` (R173). -/
def execBit1E (s : State) : Result := testBit 1 (.reg .e) (s.cyclesOf .bit_1_e 2) s

/-- `BIT 1,H` (R173). -/
def execBit1H (s : State) : Result := testBit 1 (.reg .h) (s.cyclesOf .bit_1_h 2) s

/-- `BIT 1,L` (R173). -/
def execBit1L (s : State) : Result := testBit 1 (.reg .l) (s.cyclesOf .bit_1_l 2) s

/-- `BIT 1,(HL)` (R174). -/
def execBit1Mhl (s : State) : Result := testBit 1 .mhl (s.cyclesOf .bit_1_mhl 3) s

/-- `BIT 1,A` (R173). -/
def execBit1A (s : State) : Result := testBit 1 (.reg .a) (s.cyclesOf .bit_1_a 2) s

/-- `BIT 2,B` (R173). -/
def execBit2B (s : State) : Result := testBit 2 (.reg .b) (s.cyclesOf .bit_2_b 2) s

/-- `BIT 2,C` (R173). -/
def execBit2C (s : State) : Result := testBit 2 (.reg .c) (s.cyclesOf .bit_2_c 2) s

/-- `BIT 2,D` (R173). -/
def execBit2D (s : State) : Result := testBit 2 (.reg .d) (s.cyclesOf .bit_2_d 2) s

/-- `BIT 2,E` (R173). -/
def execBit2E (s : State) : Result := testBit 2 (.reg .e) (s.cyclesOf .bit_2_e 2) s

/-- `BIT 2,H` (R173). -/
def execBit2H (s : State) : Result := testBit 2 (.reg .h) (s.cyclesOf .bit_2_h 2) s

/-- `BIT 2,L` (R173). -/
def execBit2L (s : State) : Result := testBit 2 (.reg .l) (s.cyclesOf .bit_2_l 2) s

/-- `BIT 2,(HL)` (R174). -/
def execBit2Mhl (s : State) : Result := testBit 2 .mhl (s.cyclesOf .bit_2_mhl 3) s

/-- `BIT 2,A` (R173). -/
def execBit2A (s : State) : Result := testBit 2 (.reg .a) (s.cyclesOf .bit_2_a 2) s

/-- `BIT 3,B` (R173). -/
def execBit3B (s : State) : Result := testBit 3 (.reg .b) (s.cyclesOf .bit_3_b 2) s

/-- `BIT 3,C` (R173). -/
def execBit3C (s : State) : Result := testBit 3 (.reg .c) (s.cyclesOf .bit_3_c 2) s

/-- `BIT 3,D` (R173). -/
def execBit3D (s : State) : Result := testBit 3 (.reg .d) (s.cyclesOf .bit_3_d 2) s

/-- `BIT 3,E` (R173). -/
def execBit3E (s : State) : Result := testBit 3 (.reg .e) (s.cyclesOf .bit_3_e 2) s

/-- `BIT 3,H` (R173). -/
def execBit3H (s : State) : Result := testBit 3 (.reg .h) (s.cyclesOf .bit_3_h 2) s

/-- `BIT 3,L` (R173). -/
def execBit3L (s : State) : Result := testBit 3 (.reg .l) (s.cyclesOf .bit_3_l 2) s

/-- `BIT 3,(HL)` (R174). -/
def execBit3Mhl (s : State) : Result := testBit 3 .mhl (s.cyclesOf .bit_3_mhl 3) s

/-- `BIT 3,A` (R173). -/
def execBit3A (s : State) : Result := testBit 3 (.reg .a) (s.cyclesOf .bit_3_a 2) s

/-- `BIT 4,B` (R173). -/
def execBit4B (s : State) : Result := testBit 4 (.reg .b) (s.cyclesOf .bit_4_b 2) s

/-- `BIT 4,C` (R173). -/
def execBit4C (s : State) : Result := testBit 4 (.reg .c) (s.cyclesOf .bit_4_c 2) s

/-- `BIT 4,D` (R173). -/
def execBit4D (s : State) : Result := testBit 4 (.reg .d) (s.cyclesOf .bit_4_d 2) s

/-- `BIT 4,E` (R173). -/
def execBit4E (s : State) : Result := testBit 4 (.reg .e) (s.cyclesOf .bit_4_e 2) s

/-- `BIT 4,H` (R173). -/
def execBit4H (s : State) : Result := testBit 4 (.reg .h) (s.cyclesOf .bit_4_h 2) s

/-- `BIT 4,L` (R173). -/
def execBit4L (s : State) : Result := testBit 4 (.reg .l) (s.cyclesOf .bit_4_l 2) s

/-- `BIT 4,(HL)` (R174). -/
def execBit4Mhl (s : State) : Result := testBit 4 .mhl (s.cyclesOf .bit_4_mhl 3) s

/-- `BIT 4,A` (R173). -/
def execBit4A (s : State) : Result := testBit 4 (.reg .a) (s.cyclesOf .bit_4_a 2) s

/-- `BIT 5,B` (R173). -/
def execBit5B (s : State) : Result := testBit 5 (.reg .b) (s.cyclesOf .bit_5_b 2) s

/-- `BIT 5,C` (R173). -/
def execBit5C (s : State) : Result := testBit 5 (.reg .c) (s.cyclesOf .bit_5_c 2) s

/-- `BIT 5,D` (R173). -/
def execBit5D (s : State) : Result := testBit 5 (.reg .d) (s.cyclesOf .bit_5_d 2) s

/-- `BIT 5,E` (R173). -/
def execBit5E (s : State) : Result := testBit 5 (.reg .e) (s.cyclesOf .bit_5_e 2) s

/-- `BIT 5,H` (R173). -/
def execBit5H (s : State) : Result := testBit 5 (.reg .h) (s.cyclesOf .bit_5_h 2) s

/-- `BIT 5,L` (R173). -/
def execBit5L (s : State) : Result := testBit 5 (.reg .l) (s.cyclesOf .bit_5_l 2) s

/-- `BIT 5,(HL)` (R174). -/
def execBit5Mhl (s : State) : Result := testBit 5 .mhl (s.cyclesOf .bit_5_mhl 3) s

/-- `BIT 5,A` (R173). -/
def execBit5A (s : State) : Result := testBit 5 (.reg .a) (s.cyclesOf .bit_5_a 2) s

/-- `BIT 6,B` (R173). -/
def execBit6B (s : State) : Result := testBit 6 (.reg .b) (s.cyclesOf .bit_6_b 2) s

/-- `BIT 6,C` (R173). -/
def execBit6C (s : State) : Result := testBit 6 (.reg .c) (s.cyclesOf .bit_6_c 2) s

/-- `BIT 6,D` (R173). -/
def execBit6D (s : State) : Result := testBit 6 (.reg .d) (s.cyclesOf .bit_6_d 2) s

/-- `BIT 6,E` (R173). -/
def execBit6E (s : State) : Result := testBit 6 (.reg .e) (s.cyclesOf .bit_6_e 2) s

/-- `BIT 6,H` (R173). -/
def execBit6H (s : State) : Result := testBit 6 (.reg .h) (s.cyclesOf .bit_6_h 2) s

/-- `BIT 6,L` (R173). -/
def execBit6L (s : State) : Result := testBit 6 (.reg .l) (s.cyclesOf .bit_6_l 2) s

/-- `BIT 6,(HL)` (R174). -/
def execBit6Mhl (s : State) : Result := testBit 6 .mhl (s.cyclesOf .bit_6_mhl 3) s

/-- `BIT 6,A` (R173). -/
def execBit6A (s : State) : Result := testBit 6 (.reg .a) (s.cyclesOf .bit_6_a 2) s

/-- `BIT 7,B` (R173). -/
def execBit7B (s : State) : Result := testBit 7 (.reg .b) (s.cyclesOf .bit_7_b 2) s

/-- `BIT 7,C` (R173). -/
def execBit7C (s : State) : Result := testBit 7 (.reg .c) (s.cyclesOf .bit_7_c 2) s

/-- `BIT 7,D` (R173). -/
def execBit7D (s : State) : Result := testBit 7 (.reg .d) (s.cyclesOf .bit_7_d 2) s

/-- `BIT 7,E` (R173). -/
def execBit7E (s : State) : Result := testBit 7 (.reg .e) (s.cyclesOf .bit_7_e 2) s

/-- `BIT 7,H` (R173). -/
def execBit7H (s : State) : Result := testBit 7 (.reg .h) (s.cyclesOf .bit_7_h 2) s

/-- `BIT 7,L` (R173). -/
def execBit7L (s : State) : Result := testBit 7 (.reg .l) (s.cyclesOf .bit_7_l 2) s

/-- `BIT 7,(HL)` (R174). -/
def execBit7Mhl (s : State) : Result := testBit 7 .mhl (s.cyclesOf .bit_7_mhl 3) s

/-- `BIT 7,A` (R173). -/
def execBit7A (s : State) : Result := testBit 7 (.reg .a) (s.cyclesOf .bit_7_a 2) s

/-- `RES 0,B` (R175). -/
def execRes0B (s : State) : Result := resetBitOf 0 (.reg .b) (s.cyclesOf .res_0_b 2) s

/-- `RES 0,C` (R175). -/
def execRes0C (s : State) : Result := resetBitOf 0 (.reg .c) (s.cyclesOf .res_0_c 2) s

/-- `RES 0,D` (R175). -/
def execRes0D (s : State) : Result := resetBitOf 0 (.reg .d) (s.cyclesOf .res_0_d 2) s

/-- `RES 0,E` (R175). -/
def execRes0E (s : State) : Result := resetBitOf 0 (.reg .e) (s.cyclesOf .res_0_e 2) s

/-- `RES 0,H` (R175). -/
def execRes0H (s : State) : Result := resetBitOf 0 (.reg .h) (s.cyclesOf .res_0_h 2) s

/-- `RES 0,L` (R175). -/
def execRes0L (s : State) : Result := resetBitOf 0 (.reg .l) (s.cyclesOf .res_0_l 2) s

/-- `RES 0,(HL)` (R176). -/
def execRes0Mhl (s : State) : Result := resetBitOf 0 .mhl (s.cyclesOf .res_0_mhl 4) s

/-- `RES 0,A` (R175). -/
def execRes0A (s : State) : Result := resetBitOf 0 (.reg .a) (s.cyclesOf .res_0_a 2) s

/-- `RES 1,B` (R175). -/
def execRes1B (s : State) : Result := resetBitOf 1 (.reg .b) (s.cyclesOf .res_1_b 2) s

/-- `RES 1,C` (R175). -/
def execRes1C (s : State) : Result := resetBitOf 1 (.reg .c) (s.cyclesOf .res_1_c 2) s

/-- `RES 1,D` (R175). -/
def execRes1D (s : State) : Result := resetBitOf 1 (.reg .d) (s.cyclesOf .res_1_d 2) s

/-- `RES 1,E` (R175). -/
def execRes1E (s : State) : Result := resetBitOf 1 (.reg .e) (s.cyclesOf .res_1_e 2) s

/-- `RES 1,H` (R175). -/
def execRes1H (s : State) : Result := resetBitOf 1 (.reg .h) (s.cyclesOf .res_1_h 2) s

/-- `RES 1,L` (R175). -/
def execRes1L (s : State) : Result := resetBitOf 1 (.reg .l) (s.cyclesOf .res_1_l 2) s

/-- `RES 1,(HL)` (R176). -/
def execRes1Mhl (s : State) : Result := resetBitOf 1 .mhl (s.cyclesOf .res_1_mhl 4) s

/-- `RES 1,A` (R175). -/
def execRes1A (s : State) : Result := resetBitOf 1 (.reg .a) (s.cyclesOf .res_1_a 2) s

/-- `RES 2,B` (R175). -/
def execRes2B (s : State) : Result := resetBitOf 2 (.reg .b) (s.cyclesOf .res_2_b 2) s

/-- `RES 2,C` (R175). -/
def execRes2C (s : State) : Result := resetBitOf 2 (.reg .c) (s.cyclesOf .res_2_c 2) s

/-- `RES 2,D` (R175). -/
def execRes2D (s : State) : Result := resetBitOf 2 (.reg .d) (s.cyclesOf .res_2_d 2) s

/-- `RES 2,E` (R175). -/
def execRes2E (s : State) : Result := resetBitOf 2 (.reg .e) (s.cyclesOf .res_2_e 2) s

/-- `RES 2,H` (R175). -/
def execRes2H (s : State) : Result := resetBitOf 2 (.reg .h) (s.cyclesOf .res_2_h 2) s

/-- `RES 2,L` (R175). -/
def execRes2L (s : State) : Result := resetBitOf 2 (.reg .l) (s.cyclesOf .res_2_l 2) s

/-- `RES 2,(HL)` (R176). -/
def execRes2Mhl (s : State) : Result := resetBitOf 2 .mhl (s.cyclesOf .res_2_mhl 4) s

/-- `RES 2,A` (R175). -/
def execRes2A (s : State) : Result := resetBitOf 2 (.reg .a) (s.cyclesOf .res_2_a 2) s

/-- `RES 3,B` (R175). -/
def execRes3B (s : State) : Result := resetBitOf 3 (.reg .b) (s.cyclesOf .res_3_b 2) s

/-- `RES 3,C` (R175). -/
def execRes3C (s : State) : Result := resetBitOf 3 (.reg .c) (s.cyclesOf .res_3_c 2) s

/-- `RES 3,D` (R175). -/
def execRes3D (s : State) : Result := resetBitOf 3 (.reg .d) (s.cyclesOf .res_3_d 2) s

/-- `RES 3,E` (R175). -/
def execRes3E (s : State) : Result := resetBitOf 3 (.reg .e) (s.cyclesOf .res_3_e 2) s

/-- `RES 3,H` (R175). -/
def execRes3H (s : State) : Result := resetBitOf 3 (.reg .h) (s.cyclesOf .res_3_h 2) s

/-- `RES 3,L` (R175). -/
def execRes3L (s : State) : Result := resetBitOf 3 (.reg .l) (s.cyclesOf .res_3_l 2) s

/-- `RES 3,(HL)` (R176). -/
def execRes3Mhl (s : State) : Result := resetBitOf 3 .mhl (s.cyclesOf .res_3_mhl 4) s

/-- `RES 3,A` (R175). -/
def execRes3A (s : State) : Result := resetBitOf 3 (.reg .a) (s.cyclesOf .res_3_a 2) s

/-- `RES 4,B` (R175). -/
def execRes4B (s : State) : Result := resetBitOf 4 (.reg .b) (s.cyclesOf .res_4_b 2) s

/-- `RES 4,C` (R175). -/
def execRes4C (s : State) : Result := resetBitOf 4 (.reg .c) (s.cyclesOf .res_4_c 2) s

/-- `RES 4,D` (R175). -/
def execRes4D (s : State) : Result := resetBitOf 4 (.reg .d) (s.cyclesOf .res_4_d 2) s

/-- `RES 4,E` (R175). -/
def execRes4E (s : State) : Result := resetBitOf 4 (.reg .e) (s.cyclesOf .res_4_e 2) s

/-- `RES 4,H` (R175). -/
def execRes4H (s : State) : Result := resetBitOf 4 (.reg .h) (s.cyclesOf .res_4_h 2) s

/-- `RES 4,L` (R175). -/
def execRes4L (s : State) : Result := resetBitOf 4 (.reg .l) (s.cyclesOf .res_4_l 2) s

/-- `RES 4,(HL)` (R176). -/
def execRes4Mhl (s : State) : Result := resetBitOf 4 .mhl (s.cyclesOf .res_4_mhl 4) s

/-- `RES 4,A` (R175). -/
def execRes4A (s : State) : Result := resetBitOf 4 (.reg .a) (s.cyclesOf .res_4_a 2) s

/-- `RES 5,B` (R175). -/
def execRes5B (s : State) : Result := resetBitOf 5 (.reg .b) (s.cyclesOf .res_5_b 2) s

/-- `RES 5,C` (R175). -/
def execRes5C (s : State) : Result := resetBitOf 5 (.reg .c) (s.cyclesOf .res_5_c 2) s

/-- `RES 5,D` (R175). -/
def execRes5D (s : State) : Result := resetBitOf 5 (.reg .d) (s.cyclesOf .res_5_d 2) s

/-- `RES 5,E` (R175). -/
def execRes5E (s : State) : Result := resetBitOf 5 (.reg .e) (s.cyclesOf .res_5_e 2) s

/-- `RES 5,H` (R175). -/
def execRes5H (s : State) : Result := resetBitOf 5 (.reg .h) (s.cyclesOf .res_5_h 2) s

/-- `RES 5,L` (R175). -/
def execRes5L (s : State) : Result := resetBitOf 5 (.reg .l) (s.cyclesOf .res_5_l 2) s

/-- `RES 5,(HL)` (R176). -/
def execRes5Mhl (s : State) : Result := resetBitOf 5 .mhl (s.cyclesOf .res_5_mhl 4) s

/-- `RES 5,A` (R175). -/
def execRes5A (s : State) : Result := resetBitOf 5 (.reg .a) (s.cyclesOf .res_5_a 2) s

/-- `RES 6,B` (R175). -/
def execRes6B (s : State) : Result := resetBitOf 6 (.reg .b) (s.cyclesOf .res_6_b 2) s

/-- `RES 6,C` (R175). -/
def execRes6C (s : State) : Result := resetBitOf 6 (.reg .c) (s.cyclesOf .res_6_c 2) s

/-- `RES 6,D` (R175). -/
def execRes6D (s : State) : Result := resetBitOf 6 (.reg .d) (s.cyclesOf .res_6_d 2) s

/-- `RES 6,E` (R175). -/
def execRes6E (s : State) : Result := resetBitOf 6 (.reg .e) (s.cyclesOf .res_6_e 2) s

/-- `RES 6,H` (R175). -/
def execRes6H (s : State) : Result := resetBitOf 6 (.reg .h) (s.cyclesOf .res_6_h 2) s

/-- `RES 6,L` (R175). -/
def execRes6L (s : State) : Result := resetBitOf 6 (.reg .l) (s.cyclesOf .res_6_l 2) s

/-- `RES 6,(HL)` (R176). -/
def execRes6Mhl (s : State) : Result := resetBitOf 6 .mhl (s.cyclesOf .res_6_mhl 4) s

/-- `RES 6,A` (R175). -/
def execRes6A (s : State) : Result := resetBitOf 6 (.reg .a) (s.cyclesOf .res_6_a 2) s

/-- `RES 7,B` (R175). -/
def execRes7B (s : State) : Result := resetBitOf 7 (.reg .b) (s.cyclesOf .res_7_b 2) s

/-- `RES 7,C` (R175). -/
def execRes7C (s : State) : Result := resetBitOf 7 (.reg .c) (s.cyclesOf .res_7_c 2) s

/-- `RES 7,D` (R175). -/
def execRes7D (s : State) : Result := resetBitOf 7 (.reg .d) (s.cyclesOf .res_7_d 2) s

/-- `RES 7,E` (R175). -/
def execRes7E (s : State) : Result := resetBitOf 7 (.reg .e) (s.cyclesOf .res_7_e 2) s

/-- `RES 7,H` (R175). -/
def execRes7H (s : State) : Result := resetBitOf 7 (.reg .h) (s.cyclesOf .res_7_h 2) s

/-- `RES 7,L` (R175). -/
def execRes7L (s : State) : Result := resetBitOf 7 (.reg .l) (s.cyclesOf .res_7_l 2) s

/-- `RES 7,(HL)` (R176). -/
def execRes7Mhl (s : State) : Result := resetBitOf 7 .mhl (s.cyclesOf .res_7_mhl 4) s

/-- `RES 7,A` (R175). -/
def execRes7A (s : State) : Result := resetBitOf 7 (.reg .a) (s.cyclesOf .res_7_a 2) s

/-- `SET 0,B` (R177). -/
def execSet0B (s : State) : Result := setBitOf 0 (.reg .b) (s.cyclesOf .set_0_b 2) s

/-- `SET 0,C` (R177). -/
def execSet0C (s : State) : Result := setBitOf 0 (.reg .c) (s.cyclesOf .set_0_c 2) s

/-- `SET 0,D` (R177). -/
def execSet0D (s : State) : Result := setBitOf 0 (.reg .d) (s.cyclesOf .set_0_d 2) s

/-- `SET 0,E` (R177). -/
def execSet0E (s : State) : Result := setBitOf 0 (.reg .e) (s.cyclesOf .set_0_e 2) s

/-- `SET 0,H` (R177). -/
def execSet0H (s : State) : Result := setBitOf 0 (.reg .h) (s.cyclesOf .set_0_h 2) s

/-- `SET 0,L` (R177). -/
def execSet0L (s : State) : Result := setBitOf 0 (.reg .l) (s.cyclesOf .set_0_l 2) s

/-- `SET 0,(HL)` (R178). -/
def execSet0Mhl (s : State) : Result := setBitOf 0 .mhl (s.cyclesOf .set_0_mhl 4) s

/-- `SET 0,A` (R177). -/
def execSet0A (s : State) : Result := setBitOf 0 (.reg .a) (s.cyclesOf .set_0_a 2) s

/-- `SET 1,B` (R177). -/
def execSet1B (s : State) : Result := setBitOf 1 (.reg .b) (s.cyclesOf .set_1_b 2) s

/-- `SET 1,C` (R177). -/
def execSet1C (s : State) : Result := setBitOf 1 (.reg .c) (s.cyclesOf .set_1_c 2) s

/-- `SET 1,D` (R177). -/
def execSet1D (s : State) : Result := setBitOf 1 (.reg .d) (s.cyclesOf .set_1_d 2) s

/-- `SET 1,E` (R177). -/
def execSet1E (s : State) : Result := setBitOf 1 (.reg .e) (s.cyclesOf .set_1_e 2) s

/-- `SET 1,H` (R177). -/
def execSet1H (s : State) : Result := setBitOf 1 (.reg .h) (s.cyclesOf .set_1_h 2) s

/-- `SET 1,L` (R177). -/
def execSet1L (s : State) : Result := setBitOf 1 (.reg .l) (s.cyclesOf .set_1_l 2) s

/-- `SET 1,(HL)` (R178). -/
def execSet1Mhl (s : State) : Result := setBitOf 1 .mhl (s.cyclesOf .set_1_mhl 4) s

/-- `SET 1,A` (R177). -/
def execSet1A (s : State) : Result := setBitOf 1 (.reg .a) (s.cyclesOf .set_1_a 2) s

/-- `SET 2,B` (R177). -/
def execSet2B (s : State) : Result := setBitOf 2 (.reg .b) (s.cyclesOf .set_2_b 2) s

/-- `SET 2,C` (R177). -/
def execSet2C (s : State) : Result := setBitOf 2 (.reg .c) (s.cyclesOf .set_2_c 2) s

/-- `SET 2,D` (R177). -/
def execSet2D (s : State) : Result := setBitOf 2 (.reg .d) (s.cyclesOf .set_2_d 2) s

/-- `SET 2,E` (R177). -/
def execSet2E (s : State) : Result := setBitOf 2 (.reg .e) (s.cyclesOf .set_2_e 2) s

/-- `SET 2,H` (R177). -/
def execSet2H (s : State) : Result := setBitOf 2 (.reg .h) (s.cyclesOf .set_2_h 2) s

/-- `SET 2,L` (R177). -/
def execSet2L (s : State) : Result := setBitOf 2 (.reg .l) (s.cyclesOf .set_2_l 2) s

/-- `SET 2,(HL)` (R178). -/
def execSet2Mhl (s : State) : Result := setBitOf 2 .mhl (s.cyclesOf .set_2_mhl 4) s

/-- `SET 2,A` (R177). -/
def execSet2A (s : State) : Result := setBitOf 2 (.reg .a) (s.cyclesOf .set_2_a 2) s

/-- `SET 3,B` (R177). -/
def execSet3B (s : State) : Result := setBitOf 3 (.reg .b) (s.cyclesOf .set_3_b 2) s

/-- `SET 3,C` (R177). -/
def execSet3C (s : State) : Result := setBitOf 3 (.reg .c) (s.cyclesOf .set_3_c 2) s

/-- `SET 3,D` (R177). -/
def execSet3D (s : State) : Result := setBitOf 3 (.reg .d) (s.cyclesOf .set_3_d 2) s

/-- `SET 3,E` (R177). -/
def execSet3E (s : State) : Result := setBitOf 3 (.reg .e) (s.cyclesOf .set_3_e 2) s

/-- `SET 3,H` (R177). -/
def execSet3H (s : State) : Result := setBitOf 3 (.reg .h) (s.cyclesOf .set_3_h 2) s

/-- `SET 3,L` (R177). -/
def execSet3L (s : State) : Result := setBitOf 3 (.reg .l) (s.cyclesOf .set_3_l 2) s

/-- `SET 3,(HL)` (R178). -/
def execSet3Mhl (s : State) : Result := setBitOf 3 .mhl (s.cyclesOf .set_3_mhl 4) s

/-- `SET 3,A` (R177). -/
def execSet3A (s : State) : Result := setBitOf 3 (.reg .a) (s.cyclesOf .set_3_a 2) s

/-- `SET 4,B` (R177). -/
def execSet4B (s : State) : Result := setBitOf 4 (.reg .b) (s.cyclesOf .set_4_b 2) s

/-- `SET 4,C` (R177). -/
def execSet4C (s : State) : Result := setBitOf 4 (.reg .c) (s.cyclesOf .set_4_c 2) s

/-- `SET 4,D` (R177). -/
def execSet4D (s : State) : Result := setBitOf 4 (.reg .d) (s.cyclesOf .set_4_d 2) s

/-- `SET 4,E` (R177). -/
def execSet4E (s : State) : Result := setBitOf 4 (.reg .e) (s.cyclesOf .set_4_e 2) s

/-- `SET 4,H` (R177). -/
def execSet4H (s : State) : Result := setBitOf 4 (.reg .h) (s.cyclesOf .set_4_h 2) s

/-- `SET 4,L` (R177). -/
def execSet4L (s : State) : Result := setBitOf 4 (.reg .l) (s.cyclesOf .set_4_l 2) s

/-- `SET 4,(HL)` (R178). -/
def execSet4Mhl (s : State) : Result := setBitOf 4 .mhl (s.cyclesOf .set_4_mhl 4) s

/-- `SET 4,A` (R177). -/
def execSet4A (s : State) : Result := setBitOf 4 (.reg .a) (s.cyclesOf .set_4_a 2) s

/-- `SET 5,B` (R177). -/
def execSet5B (s : State) : Result := setBitOf 5 (.reg .b) (s.cyclesOf .set_5_b 2) s

/-- `SET 5,C` (R177). -/
def execSet5C (s : State) : Result := setBitOf 5 (.reg .c) (s.cyclesOf .set_5_c 2) s

/-- `SET 5,D` (R177). -/
def execSet5D (s : State) : Result := setBitOf 5 (.reg .d) (s.cyclesOf .set_5_d 2) s

/-- `SET 5,E` (R177). -/
def execSet5E (s : State) : Result := setBitOf 5 (.reg .e) (s.cyclesOf .set_5_e 2) s

/-- `SET 5,H` (R177). -/
def execSet5H (s : State) : Result := setBitOf 5 (.reg .h) (s.cyclesOf .set_5_h 2) s

/-- `SET 5,L` (R177). -/
def execSet5L (s : State) : Result := setBitOf 5 (.reg .l) (s.cyclesOf .set_5_l 2) s

/-- `SET 5,(HL)` (R178). -/
def execSet5Mhl (s : State) : Result := setBitOf 5 .mhl (s.cyclesOf .set_5_mhl 4) s

/-- `SET 5,A` (R177). -/
def execSet5A (s : State) : Result := setBitOf 5 (.reg .a) (s.cyclesOf .set_5_a 2) s

/-- `SET 6,B` (R177). -/
def execSet6B (s : State) : Result := setBitOf 6 (.reg .b) (s.cyclesOf .set_6_b 2) s

/-- `SET 6,C` (R177). -/
def execSet6C (s : State) : Result := setBitOf 6 (.reg .c) (s.cyclesOf .set_6_c 2) s

/-- `SET 6,D` (R177). -/
def execSet6D (s : State) : Result := setBitOf 6 (.reg .d) (s.cyclesOf .set_6_d 2) s

/-- `SET 6,E` (R177). -/
def execSet6E (s : State) : Result := setBitOf 6 (.reg .e) (s.cyclesOf .set_6_e 2) s

/-- `SET 6,H` (R177). -/
def execSet6H (s : State) : Result := setBitOf 6 (.reg .h) (s.cyclesOf .set_6_h 2) s

/-- `SET 6,L` (R177). -/
def execSet6L (s : State) : Result := setBitOf 6 (.reg .l) (s.cyclesOf .set_6_l 2) s

/-- `SET 6,(HL)` (R178). -/
def execSet6Mhl (s : State) : Result := setBitOf 6 .mhl (s.cyclesOf .set_6_mhl 4) s

/-- `SET 6,A` (R177). -/
def execSet6A (s : State) : Result := setBitOf 6 (.reg .a) (s.cyclesOf .set_6_a 2) s

/-- `SET 7,B` (R177). -/
def execSet7B (s : State) : Result := setBitOf 7 (.reg .b) (s.cyclesOf .set_7_b 2) s

/-- `SET 7,C` (R177). -/
def execSet7C (s : State) : Result := setBitOf 7 (.reg .c) (s.cyclesOf .set_7_c 2) s

/-- `SET 7,D` (R177). -/
def execSet7D (s : State) : Result := setBitOf 7 (.reg .d) (s.cyclesOf .set_7_d 2) s

/-- `SET 7,E` (R177). -/
def execSet7E (s : State) : Result := setBitOf 7 (.reg .e) (s.cyclesOf .set_7_e 2) s

/-- `SET 7,H` (R177). -/
def execSet7H (s : State) : Result := setBitOf 7 (.reg .h) (s.cyclesOf .set_7_h 2) s

/-- `SET 7,L` (R177). -/
def execSet7L (s : State) : Result := setBitOf 7 (.reg .l) (s.cyclesOf .set_7_l 2) s

/-- `SET 7,(HL)` (R178). -/
def execSet7Mhl (s : State) : Result := setBitOf 7 .mhl (s.cyclesOf .set_7_mhl 4) s

/-- `SET 7,A` (R177). -/
def execSet7A (s : State) : Result := setBitOf 7 (.reg .a) (s.cyclesOf .set_7_a 2) s

end Sys2Proof.Machine
end

