-- ==== Sys2Proof/Machine/Control.lean ====
section
/-! DEFINITION. Jumps, calls and returns (45_control.md R179 to R189). -/

namespace Sys2Proof.Machine

/-- A conditional jump (R180, R183). -/
def jumpIf (cc : Cond) (target : Word) (length taken notTaken : Nat) (s : State) : Result :=
  if s.cpu.cond cc then completeAt target taken s else complete length notTaken s

/-- Push the return address and go to `target` (R184, R186). -/
def callTo (target : Word) (length cycles : Nat) (s : State) : Result :=
  completeAt target cycles (push16 (s.cpu.pc + BitVec.ofNat 16 length) s)

/-- A conditional call (R185). -/
def callIf (cc : Cond) (target : Word) (taken notTaken : Nat) (s : State) : Result :=
  if s.cpu.cond cc then callTo target 3 taken s else complete 3 notTaken s

/-- Return (R187). -/
def returnTo (cycles : Nat) (s : State) : Result :=
  completeAt (popValue s) cycles (popState s)

/-- A conditional return (R188). -/
def returnIf (cc : Cond) (taken notTaken : Nat) (s : State) : Result :=
  if s.cpu.cond cc then returnTo taken s else complete 1 notTaken s

/-- `JR e8` (R182). -/
def execJrE8 (e8 : Byte) (s : State) : Result :=
  completeAt (relativeTarget s.cpu.pc e8) (s.cyclesOf (.jr_e8 e8) 3) s

/-- `JR NZ,e8` (R183). -/
def execJrNzE8 (e8 : Byte) (s : State) : Result :=
  jumpIf .nz (relativeTarget s.cpu.pc e8) 2 (s.cyclesOf (.jr_nz_e8 e8) 3)
    (s.cyclesNotTakenOf (.jr_nz_e8 e8) 2) s

/-- `JR Z,e8` (R183). -/
def execJrZE8 (e8 : Byte) (s : State) : Result :=
  jumpIf .z (relativeTarget s.cpu.pc e8) 2 (s.cyclesOf (.jr_z_e8 e8) 3)
    (s.cyclesNotTakenOf (.jr_z_e8 e8) 2) s

/-- `JR NC,e8` (R183). -/
def execJrNcE8 (e8 : Byte) (s : State) : Result :=
  jumpIf .nc (relativeTarget s.cpu.pc e8) 2 (s.cyclesOf (.jr_nc_e8 e8) 3)
    (s.cyclesNotTakenOf (.jr_nc_e8 e8) 2) s

/-- `JR C,e8` (R183). -/
def execJrCE8 (e8 : Byte) (s : State) : Result :=
  jumpIf .c (relativeTarget s.cpu.pc e8) 2 (s.cyclesOf (.jr_c_e8 e8) 3)
    (s.cyclesNotTakenOf (.jr_c_e8 e8) 2) s

/-- `RET NZ` (R188). -/
def execRetNz (s : State) : Result :=
  returnIf .nz (s.cyclesOf .ret_nz 5) (s.cyclesNotTakenOf .ret_nz 2) s

/-- `JP NZ,a16` (R180). -/
def execJpNzA16 (a16 : Word) (s : State) : Result :=
  jumpIf .nz a16 3 (s.cyclesOf (.jp_nz_a16 a16) 4) (s.cyclesNotTakenOf (.jp_nz_a16 a16) 3) s

/-- `JP a16` (R179). -/
def execJpA16 (a16 : Word) (s : State) : Result := completeAt a16 (s.cyclesOf (.jp_a16 a16) 4) s

/-- `CALL NZ,a16` (R185). -/
def execCallNzA16 (a16 : Word) (s : State) : Result :=
  callIf .nz a16 (s.cyclesOf (.call_nz_a16 a16) 6) (s.cyclesNotTakenOf (.call_nz_a16 a16) 3) s

/-- `RST 00H` (R186). -/
def execRst00h (s : State) : Result := callTo 0x0000#16 1 (s.cyclesOf .rst_00h 4) s

/-- `RET Z` (R188). -/
def execRetZ (s : State) : Result :=
  returnIf .z (s.cyclesOf .ret_z 5) (s.cyclesNotTakenOf .ret_z 2) s

/-- `RET` (R187). -/
def execRet (s : State) : Result := returnTo (s.cyclesOf .ret 4) s

/-- `JP Z,a16` (R180). -/
def execJpZA16 (a16 : Word) (s : State) : Result :=
  jumpIf .z a16 3 (s.cyclesOf (.jp_z_a16 a16) 4) (s.cyclesNotTakenOf (.jp_z_a16 a16) 3) s

/-- `CALL Z,a16` (R185). -/
def execCallZA16 (a16 : Word) (s : State) : Result :=
  callIf .z a16 (s.cyclesOf (.call_z_a16 a16) 6) (s.cyclesNotTakenOf (.call_z_a16 a16) 3) s

/-- `CALL a16` (R184). -/
def execCallA16 (a16 : Word) (s : State) : Result := callTo a16 3 (s.cyclesOf (.call_a16 a16) 6) s

/-- `RST 08H` (R186). -/
def execRst08h (s : State) : Result := callTo 0x0008#16 1 (s.cyclesOf .rst_08h 4) s

/-- `RET NC` (R188). -/
def execRetNc (s : State) : Result :=
  returnIf .nc (s.cyclesOf .ret_nc 5) (s.cyclesNotTakenOf .ret_nc 2) s

/-- `JP NC,a16` (R180). -/
def execJpNcA16 (a16 : Word) (s : State) : Result :=
  jumpIf .nc a16 3 (s.cyclesOf (.jp_nc_a16 a16) 4) (s.cyclesNotTakenOf (.jp_nc_a16 a16) 3) s

/-- `CALL NC,a16` (R185). -/
def execCallNcA16 (a16 : Word) (s : State) : Result :=
  callIf .nc a16 (s.cyclesOf (.call_nc_a16 a16) 6) (s.cyclesNotTakenOf (.call_nc_a16 a16) 3) s

/-- `RST 10H` (R186). -/
def execRst10h (s : State) : Result := callTo 0x0010#16 1 (s.cyclesOf .rst_10h 4) s

/-- `RET C` (R188). -/
def execRetC (s : State) : Result :=
  returnIf .c (s.cyclesOf .ret_c 5) (s.cyclesNotTakenOf .ret_c 2) s

/-- `RETI` (R189). -/
def execReti (s : State) : Result := returnFromInterrupt (s.cyclesOf .reti 4) s

/-- `JP C,a16` (R180). -/
def execJpCA16 (a16 : Word) (s : State) : Result :=
  jumpIf .c a16 3 (s.cyclesOf (.jp_c_a16 a16) 4) (s.cyclesNotTakenOf (.jp_c_a16 a16) 3) s

/-- `CALL C,a16` (R185). -/
def execCallCA16 (a16 : Word) (s : State) : Result :=
  callIf .c a16 (s.cyclesOf (.call_c_a16 a16) 6) (s.cyclesNotTakenOf (.call_c_a16 a16) 3) s

/-- `RST 18H` (R186). -/
def execRst18h (s : State) : Result := callTo 0x0018#16 1 (s.cyclesOf .rst_18h 4) s

/-- `RST 20H` (R186). -/
def execRst20h (s : State) : Result := callTo 0x0020#16 1 (s.cyclesOf .rst_20h 4) s

/-- `JP HL` (R181). -/
def execJpHl (s : State) : Result := completeAt (s.pair .hl) (s.cyclesOf .jp_hl 1) s

/-- `RST 28H` (R186). -/
def execRst28h (s : State) : Result := callTo 0x0028#16 1 (s.cyclesOf .rst_28h 4) s

/-- `RST 30H` (R186). -/
def execRst30h (s : State) : Result := callTo 0x0030#16 1 (s.cyclesOf .rst_30h 4) s

/-- `RST 38H` (R186). -/
def execRst38h (s : State) : Result := callTo 0x0038#16 1 (s.cyclesOf .rst_38h 4) s

end Sys2Proof.Machine
end

