-- ==== Sys2Proof/Machine/Load8.lean ====
section
/-! DEFINITION. 8-bit loads (40_load8.md R87 to R105). -/

namespace Sys2Proof.Machine

/-- Load a byte into a register (R87 to R100). -/
def loadReg (r : Reg8) (v : Byte) (length cycles : Nat) (s : State) : Result :=
  complete length cycles (s.setReg r v)

/-- Store a byte at an address (R90 to R101). -/
def storeByte (a : Word) (v : Byte) (length cycles : Nat) (s : State) : Result :=
  complete length cycles (busWrite a v s)

/-- Load `A` from address `HL`, then step `HL` by `d` (R102, R103). -/
def loadStepHl (d : Word) (cycles : Nat) (s : State) : Result :=
  complete 1 cycles ((s.setReg .a (busRead (s.pair .hl) s)).setPair .hl (s.pair .hl + d))

/-- Store `A` at address `HL`, then step `HL` by `d` (R104, R105). -/
def storeStepHl (d : Word) (cycles : Nat) (s : State) : Result :=
  complete 1 cycles ((busWrite (s.pair .hl) (s.reg .a) s).setPair .hl (s.pair .hl + d))

/-- `LD (BC),A` (R94). -/
def execLdMbcA (s : State) : Result :=
  storeByte (s.pair .bc) (s.reg .a) 1 (s.cyclesOf .ld_mbc_a 2) s

/-- `LD B,n8` (R88). -/
def execLdBN8 (n8 : Byte) (s : State) : Result := loadReg .b n8 2 (s.cyclesOf (.ld_b_n8 n8) 2) s

/-- `LD A,(BC)` (R92). -/
def execLdAMbc (s : State) : Result :=
  loadReg .a (busRead (s.pair .bc) s) 1 (s.cyclesOf .ld_a_mbc 2) s

/-- `LD C,n8` (R88). -/
def execLdCN8 (n8 : Byte) (s : State) : Result := loadReg .c n8 2 (s.cyclesOf (.ld_c_n8 n8) 2) s

/-- `LD (DE),A` (R95). -/
def execLdMdeA (s : State) : Result :=
  storeByte (s.pair .de) (s.reg .a) 1 (s.cyclesOf .ld_mde_a 2) s

/-- `LD D,n8` (R88). -/
def execLdDN8 (n8 : Byte) (s : State) : Result := loadReg .d n8 2 (s.cyclesOf (.ld_d_n8 n8) 2) s

/-- `LD A,(DE)` (R93). -/
def execLdAMde (s : State) : Result :=
  loadReg .a (busRead (s.pair .de) s) 1 (s.cyclesOf .ld_a_mde 2) s

/-- `LD E,n8` (R88). -/
def execLdEN8 (n8 : Byte) (s : State) : Result := loadReg .e n8 2 (s.cyclesOf (.ld_e_n8 n8) 2) s

/-- `LD (HL+),A` (R104). -/
def execLdMhliA (s : State) : Result := storeStepHl 1#16 (s.cyclesOf .ld_mhli_a 2) s

/-- `LD H,n8` (R88). -/
def execLdHN8 (n8 : Byte) (s : State) : Result := loadReg .h n8 2 (s.cyclesOf (.ld_h_n8 n8) 2) s

/-- `LD A,(HL+)` (R102). -/
def execLdAMhli (s : State) : Result := loadStepHl 1#16 (s.cyclesOf .ld_a_mhli 2) s

/-- `LD L,n8` (R88). -/
def execLdLN8 (n8 : Byte) (s : State) : Result := loadReg .l n8 2 (s.cyclesOf (.ld_l_n8 n8) 2) s

/-- `LD (HL-),A` (R105). -/
def execLdMhldA (s : State) : Result := storeStepHl (-1#16) (s.cyclesOf .ld_mhld_a 2) s

/-- `LD (HL),n8` (R91). -/
def execLdMhlN8 (n8 : Byte) (s : State) : Result :=
  storeByte (s.pair .hl) n8 2 (s.cyclesOf (.ld_mhl_n8 n8) 3) s

/-- `LD A,(HL-)` (R103). -/
def execLdAMhld (s : State) : Result := loadStepHl (-1#16) (s.cyclesOf .ld_a_mhld 2) s

/-- `LD A,n8` (R88). -/
def execLdAN8 (n8 : Byte) (s : State) : Result := loadReg .a n8 2 (s.cyclesOf (.ld_a_n8 n8) 2) s

/-- `LD B,B` (R87). -/
def execLdBB (s : State) : Result := loadReg .b (s.reg .b) 1 (s.cyclesOf .ld_b_b 1) s

/-- `LD B,C` (R87). -/
def execLdBC (s : State) : Result := loadReg .b (s.reg .c) 1 (s.cyclesOf .ld_b_c 1) s

/-- `LD B,D` (R87). -/
def execLdBD (s : State) : Result := loadReg .b (s.reg .d) 1 (s.cyclesOf .ld_b_d 1) s

/-- `LD B,E` (R87). -/
def execLdBE (s : State) : Result := loadReg .b (s.reg .e) 1 (s.cyclesOf .ld_b_e 1) s

/-- `LD B,H` (R87). -/
def execLdBH (s : State) : Result := loadReg .b (s.reg .h) 1 (s.cyclesOf .ld_b_h 1) s

/-- `LD B,L` (R87). -/
def execLdBL (s : State) : Result := loadReg .b (s.reg .l) 1 (s.cyclesOf .ld_b_l 1) s

/-- `LD B,(HL)` (R89). -/
def execLdBMhl (s : State) : Result :=
  loadReg .b (busRead (s.pair .hl) s) 1 (s.cyclesOf .ld_b_mhl 2) s

/-- `LD B,A` (R87). -/
def execLdBA (s : State) : Result := loadReg .b (s.reg .a) 1 (s.cyclesOf .ld_b_a 1) s

/-- `LD C,B` (R87). -/
def execLdCB (s : State) : Result := loadReg .c (s.reg .b) 1 (s.cyclesOf .ld_c_b 1) s

/-- `LD C,C` (R87). -/
def execLdCC (s : State) : Result := loadReg .c (s.reg .c) 1 (s.cyclesOf .ld_c_c 1) s

/-- `LD C,D` (R87). -/
def execLdCD (s : State) : Result := loadReg .c (s.reg .d) 1 (s.cyclesOf .ld_c_d 1) s

/-- `LD C,E` (R87). -/
def execLdCE (s : State) : Result := loadReg .c (s.reg .e) 1 (s.cyclesOf .ld_c_e 1) s

/-- `LD C,H` (R87). -/
def execLdCH (s : State) : Result := loadReg .c (s.reg .h) 1 (s.cyclesOf .ld_c_h 1) s

/-- `LD C,L` (R87). -/
def execLdCL (s : State) : Result := loadReg .c (s.reg .l) 1 (s.cyclesOf .ld_c_l 1) s

/-- `LD C,(HL)` (R89). -/
def execLdCMhl (s : State) : Result :=
  loadReg .c (busRead (s.pair .hl) s) 1 (s.cyclesOf .ld_c_mhl 2) s

/-- `LD C,A` (R87). -/
def execLdCA (s : State) : Result := loadReg .c (s.reg .a) 1 (s.cyclesOf .ld_c_a 1) s

/-- `LD D,B` (R87). -/
def execLdDB (s : State) : Result := loadReg .d (s.reg .b) 1 (s.cyclesOf .ld_d_b 1) s

/-- `LD D,C` (R87). -/
def execLdDC (s : State) : Result := loadReg .d (s.reg .c) 1 (s.cyclesOf .ld_d_c 1) s

/-- `LD D,D` (R87). -/
def execLdDD (s : State) : Result := loadReg .d (s.reg .d) 1 (s.cyclesOf .ld_d_d 1) s

/-- `LD D,E` (R87). -/
def execLdDE (s : State) : Result := loadReg .d (s.reg .e) 1 (s.cyclesOf .ld_d_e 1) s

/-- `LD D,H` (R87). -/
def execLdDH (s : State) : Result := loadReg .d (s.reg .h) 1 (s.cyclesOf .ld_d_h 1) s

/-- `LD D,L` (R87). -/
def execLdDL (s : State) : Result := loadReg .d (s.reg .l) 1 (s.cyclesOf .ld_d_l 1) s

/-- `LD D,(HL)` (R89). -/
def execLdDMhl (s : State) : Result :=
  loadReg .d (busRead (s.pair .hl) s) 1 (s.cyclesOf .ld_d_mhl 2) s

/-- `LD D,A` (R87). -/
def execLdDA (s : State) : Result := loadReg .d (s.reg .a) 1 (s.cyclesOf .ld_d_a 1) s

/-- `LD E,B` (R87). -/
def execLdEB (s : State) : Result := loadReg .e (s.reg .b) 1 (s.cyclesOf .ld_e_b 1) s

/-- `LD E,C` (R87). -/
def execLdEC (s : State) : Result := loadReg .e (s.reg .c) 1 (s.cyclesOf .ld_e_c 1) s

/-- `LD E,D` (R87). -/
def execLdED (s : State) : Result := loadReg .e (s.reg .d) 1 (s.cyclesOf .ld_e_d 1) s

/-- `LD E,E` (R87). -/
def execLdEE (s : State) : Result := loadReg .e (s.reg .e) 1 (s.cyclesOf .ld_e_e 1) s

/-- `LD E,H` (R87). -/
def execLdEH (s : State) : Result := loadReg .e (s.reg .h) 1 (s.cyclesOf .ld_e_h 1) s

/-- `LD E,L` (R87). -/
def execLdEL (s : State) : Result := loadReg .e (s.reg .l) 1 (s.cyclesOf .ld_e_l 1) s

/-- `LD E,(HL)` (R89). -/
def execLdEMhl (s : State) : Result :=
  loadReg .e (busRead (s.pair .hl) s) 1 (s.cyclesOf .ld_e_mhl 2) s

/-- `LD E,A` (R87). -/
def execLdEA (s : State) : Result := loadReg .e (s.reg .a) 1 (s.cyclesOf .ld_e_a 1) s

/-- `LD H,B` (R87). -/
def execLdHB (s : State) : Result := loadReg .h (s.reg .b) 1 (s.cyclesOf .ld_h_b 1) s

/-- `LD H,C` (R87). -/
def execLdHC (s : State) : Result := loadReg .h (s.reg .c) 1 (s.cyclesOf .ld_h_c 1) s

/-- `LD H,D` (R87). -/
def execLdHD (s : State) : Result := loadReg .h (s.reg .d) 1 (s.cyclesOf .ld_h_d 1) s

/-- `LD H,E` (R87). -/
def execLdHE (s : State) : Result := loadReg .h (s.reg .e) 1 (s.cyclesOf .ld_h_e 1) s

/-- `LD H,H` (R87). -/
def execLdHH (s : State) : Result := loadReg .h (s.reg .h) 1 (s.cyclesOf .ld_h_h 1) s

/-- `LD H,L` (R87). -/
def execLdHL (s : State) : Result := loadReg .h (s.reg .l) 1 (s.cyclesOf .ld_h_l 1) s

/-- `LD H,(HL)` (R89). -/
def execLdHMhl (s : State) : Result :=
  loadReg .h (busRead (s.pair .hl) s) 1 (s.cyclesOf .ld_h_mhl 2) s

/-- `LD H,A` (R87). -/
def execLdHA (s : State) : Result := loadReg .h (s.reg .a) 1 (s.cyclesOf .ld_h_a 1) s

/-- `LD L,B` (R87). -/
def execLdLB (s : State) : Result := loadReg .l (s.reg .b) 1 (s.cyclesOf .ld_l_b 1) s

/-- `LD L,C` (R87). -/
def execLdLC (s : State) : Result := loadReg .l (s.reg .c) 1 (s.cyclesOf .ld_l_c 1) s

/-- `LD L,D` (R87). -/
def execLdLD (s : State) : Result := loadReg .l (s.reg .d) 1 (s.cyclesOf .ld_l_d 1) s

/-- `LD L,E` (R87). -/
def execLdLE (s : State) : Result := loadReg .l (s.reg .e) 1 (s.cyclesOf .ld_l_e 1) s

/-- `LD L,H` (R87). -/
def execLdLH (s : State) : Result := loadReg .l (s.reg .h) 1 (s.cyclesOf .ld_l_h 1) s

/-- `LD L,L` (R87). -/
def execLdLL (s : State) : Result := loadReg .l (s.reg .l) 1 (s.cyclesOf .ld_l_l 1) s

/-- `LD L,(HL)` (R89). -/
def execLdLMhl (s : State) : Result :=
  loadReg .l (busRead (s.pair .hl) s) 1 (s.cyclesOf .ld_l_mhl 2) s

/-- `LD L,A` (R87). -/
def execLdLA (s : State) : Result := loadReg .l (s.reg .a) 1 (s.cyclesOf .ld_l_a 1) s

/-- `LD (HL),B` (R90). -/
def execLdMhlB (s : State) : Result :=
  storeByte (s.pair .hl) (s.reg .b) 1 (s.cyclesOf .ld_mhl_b 2) s

/-- `LD (HL),C` (R90). -/
def execLdMhlC (s : State) : Result :=
  storeByte (s.pair .hl) (s.reg .c) 1 (s.cyclesOf .ld_mhl_c 2) s

/-- `LD (HL),D` (R90). -/
def execLdMhlD (s : State) : Result :=
  storeByte (s.pair .hl) (s.reg .d) 1 (s.cyclesOf .ld_mhl_d 2) s

/-- `LD (HL),E` (R90). -/
def execLdMhlE (s : State) : Result :=
  storeByte (s.pair .hl) (s.reg .e) 1 (s.cyclesOf .ld_mhl_e 2) s

/-- `LD (HL),H` (R90). -/
def execLdMhlH (s : State) : Result :=
  storeByte (s.pair .hl) (s.reg .h) 1 (s.cyclesOf .ld_mhl_h 2) s

/-- `LD (HL),L` (R90). -/
def execLdMhlL (s : State) : Result :=
  storeByte (s.pair .hl) (s.reg .l) 1 (s.cyclesOf .ld_mhl_l 2) s

/-- `LD (HL),A` (R90). -/
def execLdMhlA (s : State) : Result :=
  storeByte (s.pair .hl) (s.reg .a) 1 (s.cyclesOf .ld_mhl_a 2) s

/-- `LD A,B` (R87). -/
def execLdAB (s : State) : Result := loadReg .a (s.reg .b) 1 (s.cyclesOf .ld_a_b 1) s

/-- `LD A,C` (R87). -/
def execLdAC (s : State) : Result := loadReg .a (s.reg .c) 1 (s.cyclesOf .ld_a_c 1) s

/-- `LD A,D` (R87). -/
def execLdAD (s : State) : Result := loadReg .a (s.reg .d) 1 (s.cyclesOf .ld_a_d 1) s

/-- `LD A,E` (R87). -/
def execLdAE (s : State) : Result := loadReg .a (s.reg .e) 1 (s.cyclesOf .ld_a_e 1) s

/-- `LD A,H` (R87). -/
def execLdAH (s : State) : Result := loadReg .a (s.reg .h) 1 (s.cyclesOf .ld_a_h 1) s

/-- `LD A,L` (R87). -/
def execLdAL (s : State) : Result := loadReg .a (s.reg .l) 1 (s.cyclesOf .ld_a_l 1) s

/-- `LD A,(HL)` (R89). -/
def execLdAMhl (s : State) : Result :=
  loadReg .a (busRead (s.pair .hl) s) 1 (s.cyclesOf .ld_a_mhl 2) s

/-- `LD A,A` (R87). -/
def execLdAA (s : State) : Result := loadReg .a (s.reg .a) 1 (s.cyclesOf .ld_a_a 1) s

/-- `LDH (a8),A` (R101). -/
def execLdhMa8A (a8 : Byte) (s : State) : Result :=
  storeByte (highPage a8) (s.reg .a) 2 (s.cyclesOf (.ldh_ma8_a a8) 3) s

/-- `LDH (C),A` (R99). -/
def execLdhMcA (s : State) : Result :=
  storeByte (highPage (s.reg .c)) (s.reg .a) 1 (s.cyclesOf .ldh_mc_a 2) s

/-- `LD (a16),A` (R97). -/
def execLdMa16A (a16 : Word) (s : State) : Result :=
  storeByte a16 (s.reg .a) 3 (s.cyclesOf (.ld_ma16_a a16) 4) s

/-- `LDH A,(a8)` (R100). -/
def execLdhAMa8 (a8 : Byte) (s : State) : Result :=
  loadReg .a (busRead (highPage a8) s) 2 (s.cyclesOf (.ldh_a_ma8 a8) 3) s

/-- `LDH A,(C)` (R98). -/
def execLdhAMc (s : State) : Result :=
  loadReg .a (busRead (highPage (s.reg .c)) s) 1 (s.cyclesOf .ldh_a_mc 2) s

/-- `LD A,(a16)` (R96). -/
def execLdAMa16 (a16 : Word) (s : State) : Result :=
  loadReg .a (busRead a16 s) 3 (s.cyclesOf (.ld_a_ma16 a16) 4) s

end Sys2Proof.Machine
end

