-- ==== Sys2Proof/Machine/Rotate.lean ====
section
/-! DEFINITION. Rotates and shifts (44_rotate_shift_bit.md R153 to R172). -/

namespace Sys2Proof.Machine

/-- `RLCA RRCA RLA RRA` (R153 to R156): `Z` is cleared whatever the result. -/
def rotateA (op : RotOp) (cycles : Nat) (s : State) : Result :=
  let (r, c) := rotate8 op (s.reg .a) s.cpu.flagC
  complete 1 cycles ((s.setReg .a r).setFlags false false false c)

/-- The extended rotates and shifts (R157 to R172). -/
def rotateOperand (op : RotOp) (o : Operand8) (cycles : Nat) (s : State) : Result :=
  let r := rotResult op (s.operand o) s.cpu.flagC
  complete 2 cycles ((s.setOperand o r.val).setAluFlags r)

/-- `RLCA` (R153). -/
def execRlca (s : State) : Result := rotateA .rlc (s.cyclesOf .rlca 1) s

/-- `RRCA` (R154). -/
def execRrca (s : State) : Result := rotateA .rrc (s.cyclesOf .rrca 1) s

/-- `RLA` (R155). -/
def execRla (s : State) : Result := rotateA .rl (s.cyclesOf .rla 1) s

/-- `RRA` (R156). -/
def execRra (s : State) : Result := rotateA .rr (s.cyclesOf .rra 1) s

/-- `RLC B` (R157). -/
def execRlcB (s : State) : Result := rotateOperand .rlc (.reg .b) (s.cyclesOf .rlc_b 2) s

/-- `RLC C` (R157). -/
def execRlcC (s : State) : Result := rotateOperand .rlc (.reg .c) (s.cyclesOf .rlc_c 2) s

/-- `RLC D` (R157). -/
def execRlcD (s : State) : Result := rotateOperand .rlc (.reg .d) (s.cyclesOf .rlc_d 2) s

/-- `RLC E` (R157). -/
def execRlcE (s : State) : Result := rotateOperand .rlc (.reg .e) (s.cyclesOf .rlc_e 2) s

/-- `RLC H` (R157). -/
def execRlcH (s : State) : Result := rotateOperand .rlc (.reg .h) (s.cyclesOf .rlc_h 2) s

/-- `RLC L` (R157). -/
def execRlcL (s : State) : Result := rotateOperand .rlc (.reg .l) (s.cyclesOf .rlc_l 2) s

/-- `RLC (HL)` (R158). -/
def execRlcMhl (s : State) : Result := rotateOperand .rlc .mhl (s.cyclesOf .rlc_mhl 4) s

/-- `RLC A` (R157). -/
def execRlcA (s : State) : Result := rotateOperand .rlc (.reg .a) (s.cyclesOf .rlc_a 2) s

/-- `RRC B` (R159). -/
def execRrcB (s : State) : Result := rotateOperand .rrc (.reg .b) (s.cyclesOf .rrc_b 2) s

/-- `RRC C` (R159). -/
def execRrcC (s : State) : Result := rotateOperand .rrc (.reg .c) (s.cyclesOf .rrc_c 2) s

/-- `RRC D` (R159). -/
def execRrcD (s : State) : Result := rotateOperand .rrc (.reg .d) (s.cyclesOf .rrc_d 2) s

/-- `RRC E` (R159). -/
def execRrcE (s : State) : Result := rotateOperand .rrc (.reg .e) (s.cyclesOf .rrc_e 2) s

/-- `RRC H` (R159). -/
def execRrcH (s : State) : Result := rotateOperand .rrc (.reg .h) (s.cyclesOf .rrc_h 2) s

/-- `RRC L` (R159). -/
def execRrcL (s : State) : Result := rotateOperand .rrc (.reg .l) (s.cyclesOf .rrc_l 2) s

/-- `RRC (HL)` (R160). -/
def execRrcMhl (s : State) : Result := rotateOperand .rrc .mhl (s.cyclesOf .rrc_mhl 4) s

/-- `RRC A` (R159). -/
def execRrcA (s : State) : Result := rotateOperand .rrc (.reg .a) (s.cyclesOf .rrc_a 2) s

/-- `RL B` (R161). -/
def execRlB (s : State) : Result := rotateOperand .rl (.reg .b) (s.cyclesOf .rl_b 2) s

/-- `RL C` (R161). -/
def execRlC (s : State) : Result := rotateOperand .rl (.reg .c) (s.cyclesOf .rl_c 2) s

/-- `RL D` (R161). -/
def execRlD (s : State) : Result := rotateOperand .rl (.reg .d) (s.cyclesOf .rl_d 2) s

/-- `RL E` (R161). -/
def execRlE (s : State) : Result := rotateOperand .rl (.reg .e) (s.cyclesOf .rl_e 2) s

/-- `RL H` (R161). -/
def execRlH (s : State) : Result := rotateOperand .rl (.reg .h) (s.cyclesOf .rl_h 2) s

/-- `RL L` (R161). -/
def execRlL (s : State) : Result := rotateOperand .rl (.reg .l) (s.cyclesOf .rl_l 2) s

/-- `RL (HL)` (R162). -/
def execRlMhl (s : State) : Result := rotateOperand .rl .mhl (s.cyclesOf .rl_mhl 4) s

/-- `RL A` (R161). -/
def execRlA (s : State) : Result := rotateOperand .rl (.reg .a) (s.cyclesOf .rl_a 2) s

/-- `RR B` (R163). -/
def execRrB (s : State) : Result := rotateOperand .rr (.reg .b) (s.cyclesOf .rr_b 2) s

/-- `RR C` (R163). -/
def execRrC (s : State) : Result := rotateOperand .rr (.reg .c) (s.cyclesOf .rr_c 2) s

/-- `RR D` (R163). -/
def execRrD (s : State) : Result := rotateOperand .rr (.reg .d) (s.cyclesOf .rr_d 2) s

/-- `RR E` (R163). -/
def execRrE (s : State) : Result := rotateOperand .rr (.reg .e) (s.cyclesOf .rr_e 2) s

/-- `RR H` (R163). -/
def execRrH (s : State) : Result := rotateOperand .rr (.reg .h) (s.cyclesOf .rr_h 2) s

/-- `RR L` (R163). -/
def execRrL (s : State) : Result := rotateOperand .rr (.reg .l) (s.cyclesOf .rr_l 2) s

/-- `RR (HL)` (R164). -/
def execRrMhl (s : State) : Result := rotateOperand .rr .mhl (s.cyclesOf .rr_mhl 4) s

/-- `RR A` (R163). -/
def execRrA (s : State) : Result := rotateOperand .rr (.reg .a) (s.cyclesOf .rr_a 2) s

/-- `SLA B` (R165). -/
def execSlaB (s : State) : Result := rotateOperand .sla (.reg .b) (s.cyclesOf .sla_b 2) s

/-- `SLA C` (R165). -/
def execSlaC (s : State) : Result := rotateOperand .sla (.reg .c) (s.cyclesOf .sla_c 2) s

/-- `SLA D` (R165). -/
def execSlaD (s : State) : Result := rotateOperand .sla (.reg .d) (s.cyclesOf .sla_d 2) s

/-- `SLA E` (R165). -/
def execSlaE (s : State) : Result := rotateOperand .sla (.reg .e) (s.cyclesOf .sla_e 2) s

/-- `SLA H` (R165). -/
def execSlaH (s : State) : Result := rotateOperand .sla (.reg .h) (s.cyclesOf .sla_h 2) s

/-- `SLA L` (R165). -/
def execSlaL (s : State) : Result := rotateOperand .sla (.reg .l) (s.cyclesOf .sla_l 2) s

/-- `SLA (HL)` (R166). -/
def execSlaMhl (s : State) : Result := rotateOperand .sla .mhl (s.cyclesOf .sla_mhl 4) s

/-- `SLA A` (R165). -/
def execSlaA (s : State) : Result := rotateOperand .sla (.reg .a) (s.cyclesOf .sla_a 2) s

/-- `SRA B` (R167). -/
def execSraB (s : State) : Result := rotateOperand .sra (.reg .b) (s.cyclesOf .sra_b 2) s

/-- `SRA C` (R167). -/
def execSraC (s : State) : Result := rotateOperand .sra (.reg .c) (s.cyclesOf .sra_c 2) s

/-- `SRA D` (R167). -/
def execSraD (s : State) : Result := rotateOperand .sra (.reg .d) (s.cyclesOf .sra_d 2) s

/-- `SRA E` (R167). -/
def execSraE (s : State) : Result := rotateOperand .sra (.reg .e) (s.cyclesOf .sra_e 2) s

/-- `SRA H` (R167). -/
def execSraH (s : State) : Result := rotateOperand .sra (.reg .h) (s.cyclesOf .sra_h 2) s

/-- `SRA L` (R167). -/
def execSraL (s : State) : Result := rotateOperand .sra (.reg .l) (s.cyclesOf .sra_l 2) s

/-- `SRA (HL)` (R168). -/
def execSraMhl (s : State) : Result := rotateOperand .sra .mhl (s.cyclesOf .sra_mhl 4) s

/-- `SRA A` (R167). -/
def execSraA (s : State) : Result := rotateOperand .sra (.reg .a) (s.cyclesOf .sra_a 2) s

/-- `SWAP B` (R169). -/
def execSwapB (s : State) : Result := rotateOperand .swap (.reg .b) (s.cyclesOf .swap_b 2) s

/-- `SWAP C` (R169). -/
def execSwapC (s : State) : Result := rotateOperand .swap (.reg .c) (s.cyclesOf .swap_c 2) s

/-- `SWAP D` (R169). -/
def execSwapD (s : State) : Result := rotateOperand .swap (.reg .d) (s.cyclesOf .swap_d 2) s

/-- `SWAP E` (R169). -/
def execSwapE (s : State) : Result := rotateOperand .swap (.reg .e) (s.cyclesOf .swap_e 2) s

/-- `SWAP H` (R169). -/
def execSwapH (s : State) : Result := rotateOperand .swap (.reg .h) (s.cyclesOf .swap_h 2) s

/-- `SWAP L` (R169). -/
def execSwapL (s : State) : Result := rotateOperand .swap (.reg .l) (s.cyclesOf .swap_l 2) s

/-- `SWAP (HL)` (R170). -/
def execSwapMhl (s : State) : Result := rotateOperand .swap .mhl (s.cyclesOf .swap_mhl 4) s

/-- `SWAP A` (R169). -/
def execSwapA (s : State) : Result := rotateOperand .swap (.reg .a) (s.cyclesOf .swap_a 2) s

/-- `SRL B` (R171). -/
def execSrlB (s : State) : Result := rotateOperand .srl (.reg .b) (s.cyclesOf .srl_b 2) s

/-- `SRL C` (R171). -/
def execSrlC (s : State) : Result := rotateOperand .srl (.reg .c) (s.cyclesOf .srl_c 2) s

/-- `SRL D` (R171). -/
def execSrlD (s : State) : Result := rotateOperand .srl (.reg .d) (s.cyclesOf .srl_d 2) s

/-- `SRL E` (R171). -/
def execSrlE (s : State) : Result := rotateOperand .srl (.reg .e) (s.cyclesOf .srl_e 2) s

/-- `SRL H` (R171). -/
def execSrlH (s : State) : Result := rotateOperand .srl (.reg .h) (s.cyclesOf .srl_h 2) s

/-- `SRL L` (R171). -/
def execSrlL (s : State) : Result := rotateOperand .srl (.reg .l) (s.cyclesOf .srl_l 2) s

/-- `SRL (HL)` (R172). -/
def execSrlMhl (s : State) : Result := rotateOperand .srl .mhl (s.cyclesOf .srl_mhl 4) s

/-- `SRL A` (R171). -/
def execSrlA (s : State) : Result := rotateOperand .srl (.reg .a) (s.cyclesOf .srl_a 2) s

end Sys2Proof.Machine
end

