-- ==== Sys2Proof/Machine/System.lean ====
section
/-! DEFINITION. System instructions and the unassigned bytes (46_system.md R190 to R196). -/

namespace Sys2Proof.Machine

/-- `NOP` (R190). -/
def execNop (s : State) : Result := complete 1 (s.cyclesOf .nop 1) s

/-- `STOP` (R192). -/
def execStop (ignored : Byte) (s : State) : Result := complete 2 (s.cyclesOf (.stop ignored) 1) s

/-- `HALT` (R191). -/
def execHalt (s : State) : Result :=
  complete 1 (s.cyclesOf .halt 0) (s.withCpu (s.cpu.withHalted true))

/-- `INVALID_D3` (R196). -/
def execInvalidD3 (s : State) : Result := complete 1 s.params.invalidCycles s

/-- `INVALID_DB` (R196). -/
def execInvalidDb (s : State) : Result := complete 1 s.params.invalidCycles s

/-- `INVALID_DD` (R196). -/
def execInvalidDd (s : State) : Result := complete 1 s.params.invalidCycles s

/-- `INVALID_E3` (R196). -/
def execInvalidE3 (s : State) : Result := complete 1 s.params.invalidCycles s

/-- `INVALID_E4` (R196). -/
def execInvalidE4 (s : State) : Result := complete 1 s.params.invalidCycles s

/-- `INVALID_EB` (R196). -/
def execInvalidEb (s : State) : Result := complete 1 s.params.invalidCycles s

/-- `INVALID_EC` (R196). -/
def execInvalidEc (s : State) : Result := complete 1 s.params.invalidCycles s

/-- `INVALID_ED` (R196). -/
def execInvalidEd (s : State) : Result := complete 1 s.params.invalidCycles s

/-- `DI` (R193). -/
def execDi (s : State) : Result := complete 1 (s.cyclesOf .di 1) (s.withCpu (s.cpu.withIme false))

/-- `INVALID_F4` (R196). -/
def execInvalidF4 (s : State) : Result := complete 1 s.params.invalidCycles s

/-- `EI` (R194). -/
def execEi (s : State) : Result := complete 1 (s.cyclesOf .ei 1) (s.withCpu (s.cpu.withIme true))

/-- `INVALID_FC` (R196). -/
def execInvalidFc (s : State) : Result := complete 1 s.params.invalidCycles s

/-- `INVALID_FD` (R196). -/
def execInvalidFd (s : State) : Result := complete 1 s.params.invalidCycles s

end Sys2Proof.Machine
end

