-- ==== Sys2Proof/Machine/HostOps.lean ====
section
/-! DEFINITION. The host's operations (60_exceptions.md R261 to R264), loading a cartridge
(52_cartridge_mapper.md R229) and the reset procedure (70_reset_and_hazards.md R265 to R268). -/

namespace Sys2Proof.Machine

/-- `LoadROM(bytes)`: whether it succeeded, and the state after it; a failure changes nothing (R229). -/
def loadRom (image : List Byte) (s : State) : Bool × State :=
  match cartOfImage image with
  | none => (false, s)
  | some c => (true, { s with cart := some c, overlayActive := s.launch.bootOverlay })

/-- The CPU at reset with a register pattern (R266, R267); `F` is written through its mask (R18). -/
def ResetRegs.cpu (r : ResetRegs) : Cpu :=
  { a := r.a, f := r.f &&& 0xF0#8, b := r.b, c := r.c, d := r.d, e := r.e, h := r.h, l := r.l,
    sp := r.sp, pc := r.pc, ime := false, halted := false, cycle := 0, spent := 0 }

/-- `Reset()` (R266, R267, R268): the cartridge stays, its mapper registers go to their post-load
values; the launch arguments stay. -/
def hostReset (s : State) : State :=
  { cpu := if s.launch.bootOverlay then Cpu.resetBoot else s.params.resetRegs.cpu
    mem := s.launch.initMem, vram := s.launch.initVram, oam := s.launch.initOam
    timer := { divAcc := 0, timaAcc := 0 }
    ppu := Ppu.reset
    cart := s.cart.map Cart.resetRegisters
    overlayActive := s.launch.bootOverlay && s.cart.isSome
    held := Held.none, serialOut := [], launch := s.launch }

/-- Whether a button is held (R51). -/
def Held.has (h : Held) : Button → Bool
  | .right => h.right | .left => h.left | .up => h.up | .down => h.down
  | .a => h.a | .b => h.b | .select => h.select | .start => h.start

/-- Record a button as held or not held. -/
def Held.set (h : Held) (btn : Button) (v : Bool) : Held :=
  match btn with
  | .right => { h with right := v } | .left => { h with left := v }
  | .up => { h with up := v } | .down => { h with down := v }
  | .a => { h with a := v } | .b => { h with b := v }
  | .select => { h with select := v } | .start => { h with start := v }

/-- The directional buttons (R60, R262). -/
def Button.directional : Button → Bool
  | .right | .left | .up | .down => true
  | .a | .b | .select | .start => false

/-- Whether JOYP's stored byte selects the button's group (R60, R262): bit 4 or bit 5 clear. -/
def groupSelected (stored : Byte) (btn : Button) : Bool :=
  if btn.directional then !bitOf stored 4 else !bitOf stored 5

/-- `OnInputPressed(b)` (R262). -/
def pressButton (btn : Button) (s : State) : State :=
  if s.held.has btn then s
  else
    let s1 := { s with held := s.held.set btn true }
    if groupSelected (Store.read s.mem s.io.joyp.toNat) btn then setInterruptFlag 4 true s1 else s1

/-- `OnInputReleased(b)` (R262). -/
def releaseButton (btn : Button) (s : State) : State :=
  { s with held := s.held.set btn false }

/-- The host clears `frame_done` (R263). -/
def clearFrameDone (s : State) : State := { s with ppu := { s.ppu with frameDone := false } }

/-- One host action. As an event, `LoadROM`'s success value goes to the host and leaves no trace in the
state (R229, R244; log 12). -/
def applyHostEvent (s : State) : HostEvent → State
  | .loadRom bytes => (loadRom bytes s).2
  | .reset => hostReset s
  | .press btn => pressButton btn s
  | .release btn => releaseButton btn s
  | .clearFrameDone => clearFrameDone s

/-- The host actions that happen before the coming machine update, in list order (R8, R261; log 11). -/
def dueHostEvents (l : Launch) : List HostEvent :=
  (l.hostEvents.filter (fun e => e.1 == l.updates)).map Prod.snd

/-- The host acts, between two updates (R261). -/
def hostActions (s : State) : State := (dueHostEvents s.launch).foldl applyHostEvent s

/-- The launch arguments with `BOOT_OVERLAY` and `BOOT_ROM` as given; an overlay without a boot program
is refused ("Without it a model must refuse `BOOT_OVERLAY = true`", 93_implementation_defined.md U10,
log 6). -/
def Launch.withBoot (overlay : Bool) (rom : Option BootRom) (l : Launch) : Except Refusal Launch :=
  if overlay then
    match rom with
    | some bytes => .ok { l with boot := some bytes }
    | none => .error .bootRomMissing
  else .ok { l with boot := none }

/-- The launch sequence (R265): construct, `LoadROM` where an image (`CART_IMAGE`, R8) is given,
`Reset()`. -/
def launchMachine (args : Launch) (image : Option (List Byte)) : State :=
  let built := { State.reset with launch := args }
  let loaded := match image with
    | none => built
    | some bytes => (loadRom bytes built).2
  hostReset loaded

/-- The debug interface's raw memory read (R264): the bus read, which changes nothing (R64). -/
def debugRead (a : Word) (s : State) : Byte := busRead a s

/-- The debug interface's register snapshot with the cycle count and the halted flag (R264). DESIGN
CHOICE (log 21): it is the whole CPU, so it also exposes `IME`, which R264 leaves open ("a model may
expose it as well"), and the model's own `spent` (log 1). -/
def debugCpu (s : State) : Cpu := s.cpu

/-- A pixel of the frame buffer as the presentation layer reads it (R227, R263). -/
def framePixel (row col : Nat) (s : State) : BitVec 2 := Store.read s.ppu.fb (160 * row + col)

end Sys2Proof.Machine
end

