-- ==== Sys2Proof/Machine/Timer.lean ====
section
/-! DEFINITION. The timer (50_timer.md R197 to R202). -/

namespace Sys2Proof.Machine

/-- `f`, `n` times. -/
def times (n : Nat) (f : State → State) (s : State) : State :=
  match n with
  | 0 => s
  | n + 1 => times n f (f s)

/-- One divider increment, through the bus (R198). -/
def divIncrement (s : State) : State := busWrite s.io.div (busRead s.io.div s + 1#8) s

/-- The divider (R198). The loop `while div_acc >= DIV_PERIOD` runs `div_acc / DIV_PERIOD` times and
leaves the remainder (log 18). -/
def divUpdate (ticks : Nat) (s : State) : State :=
  let acc := s.timer.divAcc + ticks
  times (acc / s.params.divPeriod) divIncrement
    { s with timer := { s.timer with divAcc := acc % s.params.divPeriod } }

/-- One counter increment; on overflow the reload from TMA and the request, in the same update
(R199). -/
def timaIncrement (s : State) : State :=
  let v := busRead s.io.tima s
  if v = 0xFF#8 then setInterruptFlag 2 true (busWrite s.io.tima (busRead s.io.tma s) s)
  else busWrite s.io.tima (v + 1#8) s

/-- `TIMA_PERIOD[tac[1:0]]` (R199, R200). -/
def timaPeriodOf (p : TimaPeriods) (tac : Byte) : Nat := p.of (tac.extractLsb' 0 2)

/-- The counter (R199). TAC is read once; the loop runs `tima_acc / period` times and leaves the
remainder. -/
def timaUpdate (ticks : Nat) (s : State) : State :=
  let tac := busRead s.io.tac s
  let period := timaPeriodOf s.params.timaPeriods tac
  if bitOf tac 2 then
    let acc := s.timer.timaAcc + ticks
    times (acc / period) timaIncrement { s with timer := { s.timer with timaAcc := acc % period } }
  else s

/-- `Timer.Update(cycles)` (R197). -/
def timerUpdate (cycles : Nat) (s : State) : State :=
  let ticks := s.params.ticksPerCycle * cycles
  timaUpdate ticks (divUpdate ticks s)

end Sys2Proof.Machine
end

