-- ==== Sys2Proof/Machine/Ppu.lean ====
section
/-! DEFINITION. The display processor (51_ppu.md R205 to R227). -/

namespace Sys2Proof.Machine

/-- The state with its PPU changed and nothing else. -/
def State.withPpu (s : State) (p : Ppu) : State := { s with ppu := p }

/-- The state with its fetcher changed and nothing else. -/
def State.withFetcher (s : State) (f : Fetcher) : State := s.withPpu { s.ppu with fetcher := f }

/-- `vram[a]`: the PPU's own VRAM byte at bus address `a` (R226). -/
def vramByte (a : Word) (s : State) : Byte := Store.read s.vram (vramIndex a)

/-! ## Modes, STAT, line ends -/

/-- The number of a mode (R49, R209). -/
def PpuMode.code : PpuMode → Byte
  | .hblank => 0x00#8 | .vblank => 0x01#8 | .scan => 0x02#8 | .transfer => 0x03#8

/-- STAT after the change to mode `m` (R209): bits 7:3 kept, bit 2 the coincidence, bits 1:0 the mode. -/
def statByte (m : PpuMode) (st ly lyc : Byte) : Byte :=
  (st &&& 0xF8#8) ||| (if ly = lyc then 0x04#8 else 0x00#8) ||| m.code

/-- Whether a STAT source bit is set and active (R209). -/
def statRequest (m : PpuMode) (st : Byte) (co : Bool) : Bool :=
  (bitOf st 3 && m == .hblank) || (bitOf st 4 && m == .vblank) || (bitOf st 5 && m == .scan)
    || (bitOf st 6 && co)

/-- `SetMode(m)` (R209). -/
def setMode (m : PpuMode) (s : State) : State :=
  let ly := busRead s.io.ly s
  let lyc := busRead s.io.lyc s
  let st := statByte m (busRead s.io.stat s) ly lyc
  let s1 := busWrite s.io.stat st (s.withPpu { s.ppu with mode := m })
  let s2 := if statRequest m st (ly == lyc) then setInterruptFlag 1 true s1 else s1
  if m = .vblank then setInterruptFlag 0 true s2 else s2

/-- `EndLine()` (R211). -/
def endLine (s : State) : State :=
  let p := s.ppu
  let ly := busRead s.io.ly s + 1#8
  let s1 := busWrite s.io.ly ly
    (s.withPpu
      { p with dot := 0, windowLine := if p.windowEngaged then p.windowLine + 1#8 else p.windowLine })
  if ly = 144#8 then
    setMode .vblank
      (s1.withPpu { s1.ppu with windowLine := 0#8, wyReached := false, windowEngaged := false })
  else setMode .scan s1

/-- `VBlankLine()` (R212). -/
def vblankLine (s : State) : State :=
  let ly := busRead s.io.ly s + 1#8
  let s1 := s.withPpu { s.ppu with dot := 0 }
  if ly = 154#8 then
    let s2 := busWrite s.io.ly 0#8 s1
    setMode .scan (s2.withPpu { s2.ppu with frameDone := true })
  else busWrite s.io.ly ly s1

/-! ## Mode 2 -/

/-- The sprite height that LCDC selects (R213, R218). -/
def spriteHeight (lcdc : Byte) : Nat := if bitOf lcdc 2 then 16 else 8

/-- OAM entry `i` (R213). -/
def oamSprite (oam : Memory) (i : Nat) : Sprite :=
  { y := Store.read oam (4 * i), x := Store.read oam (4 * i + 1), tile := Store.read oam (4 * i + 2),
    attr := Store.read oam (4 * i + 3), fetched := false }

/-- Whether a sprite overlaps scanline `ly` (R213), on naturals. -/
def spriteOverlaps (ly h : Nat) (sp : Sprite) : Bool :=
  decide (0 < sp.x.toNat ∧ sp.y.toNat ≤ ly + 16 ∧ ly + 16 < sp.y.toNat + h)

/-- The sprites of a scanline: the first ten matching OAM entries, in OAM order (R213). -/
def selectSprites (oam : Memory) (ly h : Nat) : List Sprite :=
  (((List.range 40).map (oamSprite oam)).filter (spriteOverlaps ly h)).take 10

/-- `OamScan()` (R213). -/
def oamScan (s : State) : State :=
  let ly := busRead s.io.ly s
  s.withPpu
    { s.ppu with
      wyReached := s.ppu.wyReached || busRead s.io.wy s == ly
      sprites := selectSprites s.oam ly.toNat (spriteHeight (busRead s.io.lcdc s)) }

/-! ## Mode 3 -/

/-- `Mode3Init()` (R214). -/
def mode3Init (s : State) : State :=
  s.withPpu
    { s.ppu with
      fifo := [], lx := 0, discard := (busRead s.io.scx s &&& 7#8).toNat, fetchX := 0, winFetchX := 0,
      windowActive := false,
      fetcher := { s.ppu.fetcher with kind := .bg, stage := .s0, sub := 0 } }

/-- The condition of step A (R216). -/
def windowEntered (s : State) : Bool :=
  !s.ppu.windowActive && bitOf (busRead s.io.lcdc s) 5 && s.ppu.wyReached
    && decide ((busRead s.io.wx s).toNat ≤ s.ppu.lx + 7) && s.ppu.fetcher.kind != .obj

/-- Step A, window entry (R216). -/
def windowEntry (s : State) : State :=
  if windowEntered s then
    s.withPpu
      { s.ppu with
        fifo := [], windowActive := true, windowEngaged := true, winFetchX := 0, discard := 0,
        fetcher := { s.ppu.fetcher with kind := .win, stage := .s0, sub := 0 } }
  else s

/-- The 2-bit colour index of bit `k` of a tile row (R219, R222): the high byte gives the high bit. -/
def colorIndex (hi lo : Byte) (k : Nat) : BitVec 2 :=
  BitVec.ofBool (bitOf hi k) ++ BitVec.ofBool (bitOf lo k)

/-- `pal[2*idx+1 : 2*idx]` (R219, R222). -/
def paletteColor (pal : Byte) (idx : BitVec 2) : BitVec 2 := pal.extractLsb' (2 * idx.toNat) 2

/-- What column `i` of a sprite's row puts over a queued pixel, `none` where the pixel stays (R219). -/
def mergedPixel (sp : Sprite) (hi lo pal : Byte) (i : Nat) (old : Pixel) : Option Pixel :=
  let idx := colorIndex hi lo (if bitOf sp.attr 5 then i else 7 - i)
  if idx = 0#2 ∨ old.obj ∨ (bitOf sp.attr 7 ∧ old.color ≠ 0#2) then none
  else some { color := paletteColor pal idx, obj := true }

/-- One column of `MergeSprite` (R219). The queue position is `x - 8 + i - lx`; a column off the left
edge or beyond the queue is skipped. -/
def mergeColumn (sp : Sprite) (hi lo pal : Byte) (lx : Nat) (fifo : List Pixel) (i : Nat) :
    List Pixel :=
  if sp.x.toNat + i < 8 + lx then fifo
  else
    let j := sp.x.toNat + i - (8 + lx)
    match fifo[j]? with
    | none => fifo
    | some old =>
      match mergedPixel sp hi lo pal i old with
      | none => fifo
      | some px => fifo.set j px

/-- `MergeSprite(s)` on the queue (R219). -/
def mergeSprite (sp : Sprite) (hi lo pal : Byte) (lx : Nat) (fifo : List Pixel) : List Pixel :=
  (List.range 8).foldl (mergeColumn sp hi lo pal lx) fifo

/-- The sprite in slot `n`; a slot outside the list, which no run reaches, is an all-zero sprite
(log 14). -/
def spriteAt (sprites : List Sprite) (n : Nat) : Sprite :=
  sprites.getD n { y := 0, x := 0, tile := 0, attr := 0, fetched := false }

/-- The row of a sprite that scanline `ly` shows, vertical flip included, modulo 256 (R218, log 13). -/
def spriteRow (sp : Sprite) (ly : Byte) (h : Nat) : Byte :=
  let line := ly + 16#8 - sp.y
  if bitOf sp.attr 6 then BitVec.ofNat 8 h - 1#8 - line else line

/-- The tile a sprite row comes from (R218): "for tall sprites, tile-index parity". -/
def spriteTile (sp : Sprite) (row : Byte) (h : Nat) : Byte :=
  if h = 16 then (sp.tile &&& 0xFE#8) ||| (row >>> 3) else sp.tile

/-- `0x8000 + 16 * tile + 2 * (line & 7)` (R218). -/
def spriteRowAddr (tile row : Byte) : Word :=
  BitVec.ofNat 16 (0x8000 + 16 * tile.toNat + 2 * (row &&& 7#8).toNat)

/-- What stage `f.stage` of the sprite fetch does after its two ticks (R218). A sprite fetch has no
stage 3; in that state, which no run reaches, only `f.sub` is cleared (log 14). -/
def spriteStage (s : State) : State :=
  let f := s.ppu.fetcher
  let sp := spriteAt s.ppu.sprites f.slot
  match f.stage with
  | .s0 =>
    let h := spriteHeight (busRead s.io.lcdc s)
    let row := spriteRow sp (busRead s.io.ly s) h
    let tile := spriteTile sp row h
    s.withFetcher { f with tile := tile, addr := spriteRowAddr tile row, stage := .s1, sub := 0 }
  | .s1 => s.withFetcher { f with lo := vramByte f.addr s, stage := .s2, sub := 0 }
  | .s2 =>
    let hi := vramByte (f.addr + 1#16) s
    let pal := if bitOf sp.attr 4 then busRead s.io.obp1 s else busRead s.io.obp0 s
    s.withPpu
      { s.ppu with
        fifo := mergeSprite sp hi f.lo pal s.ppu.lx s.ppu.fifo
        sprites := s.ppu.sprites.set f.slot { sp with fetched := true }
        fetcher :=
          { f with hi := hi, kind := if s.ppu.windowActive then .win else .bg, stage := .s0, sub := 0 } }
  | .s3 => s.withFetcher { f with sub := 0 }

/-- Step B, one tick of a sprite fetch (R218). -/
def spriteFetch (s : State) : State :=
  let f := s.ppu.fetcher
  if f.sub + 1 = 2 then spriteStage s else s.withFetcher { f with sub := f.sub + 1 }

/-- `TileRowAddr(mode_bit, id, line)` (R221). -/
def tileRowAddr (modeBit : Bool) (id : Byte) (line : Byte) : Word :=
  if modeBit then BitVec.ofNat 16 (0x8000 + 16 * id.toNat + 2 * line.toNat)
  else BitVec.ofInt 16 (0x9000 + 16 * id.toInt + 2 * line.toNat)

/-- The address of the tile id that stage 0 fetches (R220). -/
def tileMapAddr (s : State) : Word :=
  let lcdc := busRead s.io.lcdc s
  match s.ppu.fetcher.kind with
  | .bg =>
    let base := if bitOf lcdc 3 then 0x9C00 else 0x9800
    let col := (s.ppu.fetchX + (busRead s.io.scx s).toNat / 8) % 32
    let row := (busRead s.io.ly s + busRead s.io.scy s).toNat / 8
    BitVec.ofNat 16 (base + 32 * row + col)
  | _ =>
    let base := if bitOf lcdc 6 then 0x9C00 else 0x9800
    BitVec.ofNat 16 (base + 32 * (s.ppu.windowLine.toNat / 8) + s.ppu.winFetchX % 32)

/-- The row within the tile that stage 1 fetches (R220). -/
def tileLine (s : State) : Byte :=
  match s.ppu.fetcher.kind with
  | .bg => (busRead s.io.ly s + busRead s.io.scy s) &&& 7#8
  | _ => s.ppu.windowLine &&& 7#8

/-- The eight pixels of `Push8()` (R222). -/
def rowPixels (lcdc bgp hi lo : Byte) : List Pixel :=
  [7, 6, 5, 4, 3, 2, 1, 0].map (fun k =>
    { color := if bitOf lcdc 0 then paletteColor bgp (colorIndex hi lo k) else 0#2, obj := false })

/-- Stage 3 when it can push: `Push8()`, then the column counter of the kind being fetched (R220,
R222). -/
def pushRow (s : State) : State :=
  let p := s.ppu
  let f := p.fetcher
  s.withPpu
    { p with
      fifo := p.fifo ++ rowPixels (busRead s.io.lcdc s) (busRead s.io.bgp s) f.hi f.lo
      fetchX := if f.kind = .bg then p.fetchX + 1 else p.fetchX
      winFetchX := if f.kind = .bg then p.winFetchX else p.winFetchX + 1
      fetcher := { f with stage := .s0, sub := 0 } }

/-- What stage `f.stage` of the background/window fetcher does once `sub` ticks have accumulated in it
(R220). -/
def fetcherStage (sub : Nat) (s : State) : State :=
  let f := s.ppu.fetcher
  match f.stage with
  | .s0 => s.withFetcher { f with tile := vramByte (tileMapAddr s) s, stage := .s1, sub := 0 }
  | .s1 =>
    let a := tileRowAddr (bitOf (busRead s.io.lcdc s) 4) f.tile (tileLine s)
    s.withFetcher { f with addr := a, lo := vramByte a s, stage := .s2, sub := 0 }
  | .s2 => s.withFetcher { f with hi := vramByte (f.addr + 1#16) s, stage := .s3, sub := 0 }
  | .s3 => if s.ppu.fifo.length ≤ 8 then pushRow s else s.withFetcher { f with sub := sub }

/-- Step C, one tick of the background/window fetcher (R220). -/
def fetcherTick (s : State) : State :=
  let f := s.ppu.fetcher
  if f.sub + 1 < 2 then s.withFetcher { f with sub := f.sub + 1 } else fetcherStage (f.sub + 1) s

/-- The first sprite, in list order, that is due and not yet fetched (R217). -/
def dueSprite (s : State) : Option Nat :=
  if bitOf (busRead s.io.lcdc s) 1 ∧ 8 < s.ppu.fifo.length ∧ s.ppu.discard = 0 then
    s.ppu.sprites.findIdx? (fun sp => !sp.fetched && decide (sp.x.toNat ≤ s.ppu.lx + 8))
  else none

/-- Step E, pop (R223). The frame buffer is written for rows 0 to 143 and columns 0 to 159 (log 15). -/
def popPixel (s : State) : State :=
  let p := s.ppu
  match p.fifo with
  | [] => s
  | px :: rest =>
    if p.fifo.length ≤ 8 then s
    else if 0 < p.discard then s.withPpu { p with fifo := rest, discard := p.discard - 1 }
    else
      let ly := (busRead s.io.ly s).toNat
      s.withPpu
        { p with
          fifo := rest, lx := p.lx + 1
          fb := if ly < 144 ∧ p.lx < 160 then Store.write p.fb (160 * ly + p.lx) px.color else p.fb }

/-- Steps D and E (R215, R217): a due sprite starts its fetch and ends the tick, else the pop. -/
def triggerOrPop (s : State) : State :=
  match dueSprite s with
  | some n => s.withFetcher { s.ppu.fetcher with kind := .obj, stage := .s0, sub := 0, slot := n }
  | none => popPixel s

/-- `Mode3Tick()` (R215). -/
def mode3Tick (s : State) : State :=
  let s1 := windowEntry s
  if s1.ppu.fetcher.kind = .obj then spriteFetch s1 else triggerOrPop (fetcherTick s1)

/-! ## Ticks -/

/-- One tick step (R206). -/
def ppuTick (s : State) : State :=
  let s1 := s.withPpu { s.ppu with dot := s.ppu.dot + 1 }
  match s1.ppu.mode with
  | .scan => if s1.ppu.dot = 80 then setMode .transfer (mode3Init (oamScan s1)) else s1
  | .transfer =>
    let s2 := mode3Tick s1
    if s2.ppu.lx = 160 then setMode .hblank s2 else s2
  | .hblank => if 456 ≤ s1.ppu.dot then endLine s1 else s1
  | .vblank => if 456 ≤ s1.ppu.dot then vblankLine s1 else s1

/-- `PPU.Tick(cycles)` (R205). -/
def ppuUpdate (cycles : Nat) (s : State) : State :=
  times (s.params.ticksPerCycle * cycles) ppuTick s

end Sys2Proof.Machine
end

