-- ==== Sys2Proof/Machine/Update.lean ====
section
/-! DEFINITION. Fetching an instruction, the CPU step (60_exceptions.md R248) and the machine update
(R255). -/

namespace Sys2Proof.Machine

/-- The instruction at `pc` (R68, R248): the bytes at `pc`, `pc + 1`, `pc + 2` modulo 65536, of which
the decoder uses as many as the first byte asks for (log 17). -/
def fetch (s : State) : Instr :=
  decodeBytes (busRead s.cpu.pc s) (busRead (s.cpu.pc + 1#16) s) (busRead (s.cpu.pc + 2#16) s)

/-- "wake, whatever IME is" (R248). -/
def wake (s : State) : State :=
  if pendingInterrupts s ≠ 0#8 then s.withCpu (s.cpu.withHalted false) else s

/-- `CPU.Step()` (R248). The returned cycle count is left in `cpu.spent` (log 1). -/
def cpuStep (s : State) : Result :=
  let pending := pendingInterrupts s
  let s1 := wake s
  if s1.cpu.ime ∧ pending ≠ 0#8 then dispatchInterrupt (lowestInterrupt pending) s1
  else if s1.cpu.halted then .next (s1.withCpu (s1.cpu.retire s1.params.clock s1.params.haltIdleCycles))
  else exec (fetch s1) s1

/-- The overlay check at the start of an update (R240, R255). -/
def overlayCheck (s : State) : State :=
  if s.overlayActive ∧ s.cpu.pc = 0x0100#16 then { s with overlayActive := false } else s

/-- The number of the coming update advances (log 11). -/
def countUpdate (s : State) : State :=
  { s with launch := { s.launch with updates := s.launch.updates + 1 } }

/-- The devices take the cycles the CPU step returned, the timer first (R255). -/
def advanceDevices (s : State) : State :=
  countUpdate (ppuUpdate s.cpu.spent (timerUpdate s.cpu.spent s))

/-- One machine update (R255), with the host actions that are due before it (R261). -/
def machineUpdate (s : State) : Result :=
  match cpuStep (overlayCheck (hostActions s)) with
  | .next s1 => .next (advanceDevices s1)
  | .fault r => .fault r
  | .refused r => .refused r

end Sys2Proof.Machine
end

