-- ==== Sys2Proof/Machine/Loader.lean ====
section
/-! DEFINITION. Putting an instruction where the next step fetches it (logs 9, 10): a program is loaded
from outside the machine (R229, R261), and this stands for that load. -/

namespace Sys2Proof.Machine

/-- A 32 KiB image of zeros with no controller (R232, R233): what an empty slot is filled with. -/
def blankCart : Cart :=
  { kind := .none
    header :=
      { title := List.replicate 16 0#8, newLicensee := [0#8, 0#8], cartType := 0, romSizeCode := 0,
        ramSizeCode := 0, destination := 0, oldLicensee := 0, version := 0, checksum := 0,
        checksumOk := false }
    rom := [], romBanks := 2, ram := [], ramSize := 0, bank1 := 1, bank2 := 0, ramEn := false,
    mode := false }

/-- Whether a byte can be placed so that address `a` reads as it: not JOYP, whose bits are computed on
read (R60), and not cartridge RAM that is absent or disabled (R238). -/
def placeable (a : Word) (s : State) : Bool :=
  match regionOf a with
  | .cartRom | .vram | .oam => true
  | .internal => a != s.io.joyp
  | .cartRam =>
    match s.cart with
    | some c => (c.ramIndex a).isSome
    | none => false

/-- The cartridge with `v` as the ROM byte at address `a`. -/
def Cart.placeRom (c : Cart) (a : Word) (v : Byte) : Cart :=
  { c with rom := Store.write c.rom (c.romIndex a) v }

/-- The state in which address `a` reads as `v`, where `placeable`: the byte is put into its backing
store with no side effect of a bus write. -/
def placeByte (a : Word) (v : Byte) (s : State) : State :=
  match regionOf a with
  | .cartRom =>
    { s with
      cart := some ((s.cart.getD blankCart).placeRom a v)
      overlayActive := if a < 0x0100#16 then false else s.overlayActive }
  | .vram => { s with vram := Store.write s.vram (vramIndex a) v }
  | .cartRam => { s with cart := s.cart.map (fun c => c.writeRam a v) }
  | .oam => { s with oam := Store.write s.oam (oamIndex a) v }
  | .internal => { s with mem := Store.write s.mem a.toNat v }

/-- The state fit to take an instruction at `pc`: `pc` moved to work RAM where the bytes there cannot be
placed (log 10). -/
def withPlaceablePc (s : State) : State :=
  let pc := s.cpu.pc
  if placeable pc s && placeable (pc + 1#16) s && placeable (pc + 2#16) s then s
  else s.withCpu { s.cpu with pc := 0xC000#16 }

/-- The state whose next step is neither idle nor a dispatch and in which no host action is due
(log 10). -/
def readyToFetch (s : State) : State :=
  let quiet := { s with
    launch := { s.launch with
      hostEvents := s.launch.hostEvents.filter (fun e => e.1 != s.launch.updates) } }
  quiet.withCpu
    { quiet.cpu with
      halted := false
      ime := if pendingInterrupts quiet = 0#8 then quiet.cpu.ime else false }

/-- Place three bytes at `pc` and make the next step fetch them. -/
def placeAtPc (b0 b1 b2 : Byte) (s : State) : State :=
  let s1 := withPlaceablePc s
  let pc := s1.cpu.pc
  readyToFetch (placeByte (pc + 2#16) b2 (placeByte (pc + 1#16) b1 (placeByte pc b0 s1)))

end Sys2Proof.Machine
end

