-- ==== Sys2Proof/Machine/Step.lean ====
section
/-! DEFINITION. One step of the machine is one machine update (60_exceptions.md R255: "the machine
update is the model's atomic step"). -/

namespace Sys2Proof.Machine

/-- One step: the host actions that are due, the overlay check, one CPU step, the timer, the PPU. -/
def step (s : State) : Host.Outcome State Fault Refusal := machineUpdate s

/-- `s` with the instruction of a table word stored where `step` fetches its next instruction
(logs 8, 9, 10). -/
def State.withFetchWord (s : State) (nbits w : Nat) : State :=
  let (b0, b1, b2) := tableBytes nbits w
  placeAtPc b0 b1 b2 s

end Sys2Proof.Machine
end

