-- ==== Sys2Proof/Machine/Accessors.lean ====
section
/-! DEFINITION. The component accessors with their declared ranges checked (60_exceptions.md R244,
52_cartridge_mapper.md R241; log 16): "an invariant violation ... is a caller bug". The machine itself
never calls one outside its range and so never faults; these are for a host that calls a component
directly. -/

namespace Sys2Proof.Machine

/-- Answer `v` where the precondition holds, else the accessor's precondition fault. -/
def guarded {α : Type} (acc : Accessor) (ok : Bool) (v : α) : Except Fault α :=
  if ok then .ok v else .error (.precondition acc)

/-- `Cart.ReadROM(a)`, 0x0000-0x7FFF. -/
def Cart.readRomChecked (c : Cart) (a : Word) : Except Fault Byte :=
  guarded .cartReadRom (regionOf a == .cartRom) (c.readRom a)

/-- `Cart.WriteROM(a, v)`, 0x0000-0x7FFF. -/
def Cart.writeRomChecked (c : Cart) (a : Word) (v : Byte) : Except Fault Cart :=
  guarded .cartWriteRom (regionOf a == .cartRom) (c.writeRom a v)

/-- `Cart.ReadRAM(a)`, 0xA000-0xBFFF. -/
def Cart.readRamChecked (c : Cart) (a : Word) : Except Fault Byte :=
  guarded .cartReadRam (regionOf a == .cartRam) (c.readRam a)

/-- `Cart.WriteRAM(a, v)`, 0xA000-0xBFFF. -/
def Cart.writeRamChecked (c : Cart) (a : Word) (v : Byte) : Except Fault Cart :=
  guarded .cartWriteRam (regionOf a == .cartRam) (c.writeRam a v)

/-- VRAM by index, 0 to 8191. -/
def vramChecked (i : Nat) (s : State) : Except Fault Byte :=
  guarded .vram (decide (i < 8192)) (Store.read s.vram i)

/-- OAM by index, 0 to 159. -/
def oamChecked (i : Nat) (s : State) : Except Fault Byte :=
  guarded .oam (decide (i < 160)) (Store.read s.oam i)

/-- The frame buffer, row 0 to 143 and column 0 to 159. -/
def framePixelChecked (row col : Nat) (s : State) : Except Fault (BitVec 2) :=
  guarded .frameBuffer (decide (row < 144 ∧ col < 160)) (framePixel row col s)

/-- `SetInterruptFlag(bit, value)`, bit 0 to 4. -/
def setInterruptFlagChecked (i : Nat) (value : Bool) (s : State) : Except Fault State :=
  guarded .setInterruptFlag (decide (i < 5)) (setInterruptFlag i value s)

end Sys2Proof.Machine
end

