-- ==== Sys2Proof/Safety.lean ====
section
/-! DEFINITION. The terms the statements use: operand field numbers and instruction families, what it
is for an instruction to complete, frames, and the machine's invariants. -/

namespace Sys2Proof

/-! ## Field numbers and families -/

/-- R72. -/
def Reg8.code : Reg8 → Nat
  | .b => 0 | .c => 1 | .d => 2 | .e => 3 | .h => 4 | .l => 5 | .a => 7

/-- R72. -/
def Operand8.code : Operand8 → Nat
  | .reg r => r.code | .mhl => 6

/-- R73. -/
def Pair.code : Pair → Nat
  | .bc => 0 | .de => 1 | .hl => 2 | .sp => 3

/-- R74. -/
def StackPair.code : StackPair → Nat
  | .bc => 0 | .de => 1 | .hl => 2 | .af => 3

/-- R75. -/
def Cond.code : Cond → Nat
  | .nz => 0 | .z => 1 | .nc => 2 | .c => 3

/-- R76. -/
def AluOp.code : AluOp → Nat
  | .add => 0 | .adc => 1 | .sub => 2 | .sbc => 3 | .and => 4 | .xor => 5 | .or => 6 | .cp => 7

/-- R77. -/
def RotOp.code : RotOp → Nat
  | .rlc => 0 | .rrc => 1 | .rl => 2 | .rr => 3 | .sla => 4 | .sra => 5 | .swap => 6 | .srl => 7

/-- A byte from a number. -/
abbrev byteOf (n : Nat) : Byte := BitVec.ofNat 8 n

/-- Where an accumulator operation takes its second operand from. -/
inductive AluSource where
  | operand (o : Operand8)
  | imm (n8 : Byte)
deriving DecidableEq, Repr

/-- The length of an accumulator operation. -/
def AluSource.length : AluSource → Word
  | .operand _ => 1#16
  | .imm _ => 2#16

/-- The cycles of an accumulator operation (R85). -/
def AluSource.cycles : AluSource → Nat
  | .operand (.reg _) => 1
  | .operand .mhl => 2
  | .imm _ => 2

/-- The accumulator operations, 72 opcodes (R117 to R140). -/
def Instr.aluOn (op : AluOp) : AluSource → Instr
  | .operand (.reg r) => .aluReg op r
  | .operand .mhl => .aluMem op
  | .imm n8 => .aluImm op n8

/-- `INC r` and `INC (HL)` (R141, R142). -/
def Instr.incOn : Operand8 → Instr
  | .reg r => .incReg r | .mhl => .inc_mhl

/-- `DEC r` and `DEC (HL)` (R143, R144). -/
def Instr.decOn : Operand8 → Instr
  | .reg r => .decReg r | .mhl => .dec_mhl

/-- The extended rotates and shifts, 64 opcodes (R157 to R172). -/
def Instr.rotOn (op : RotOp) : Operand8 → Instr
  | .reg r => .rotReg op r | .mhl => .rotMem op

/-- `BIT b` (R173, R174). -/
def Instr.bitOn (b : Num8) : Operand8 → Instr
  | .reg r => .bitReg b r | .mhl => .bitMem b

/-- `RES b` (R175, R176). -/
def Instr.resOn (b : Num8) : Operand8 → Instr
  | .reg r => .resReg b r | .mhl => .resMem b

/-- `SET b` (R177, R178). -/
def Instr.setOn (b : Num8) : Operand8 → Instr
  | .reg r => .setReg b r | .mhl => .setMem b

/-- The eleven unassigned bytes with their instructions (R82, R196). -/
def unassignedBytes : List (Byte × Instr) :=
  [(0xD3, .invalid_d3), (0xDB, .invalid_db), (0xDD, .invalid_dd), (0xE3, .invalid_e3),
   (0xE4, .invalid_e4), (0xEB, .invalid_eb), (0xEC, .invalid_ec), (0xED, .invalid_ed),
   (0xF4, .invalid_f4), (0xFC, .invalid_fc), (0xFD, .invalid_fd)]

/-- A choice by operand kind: `r` for a register, `m` for `(HL)`. -/
def Operand8.pick {α : Type} (o : Operand8) (r m : α) : α :=
  match o with
  | .reg _ => r
  | .mhl => m

end Sys2Proof

namespace Sys2Proof.Machine

/-! ## The parameters -/

/-- The I/O registers that are plain bytes on the bus (R31, R55): all but JOYP, whose read is computed,
and SC and DMA, whose writes have a side effect (R57). -/
def IoMap.plain (m : IoMap) : List Word :=
  [m.sb, m.div, m.tima, m.tma, m.tac, m.iflag, m.lcdc, m.stat, m.scy, m.scx, m.ly, m.lyc, m.bgp,
    m.obp0, m.obp1, m.wy, m.wx, m.ienable]

/-- The I/O registers of R31. -/
def IoMap.addresses (m : IoMap) : List Word := m.joyp :: m.sc :: m.dma :: m.plain

/-- Legal I/O addresses: each register is a byte of the internal array (R31), no two the same. -/
structure IoMap.Valid (m : IoMap) : Prop where
  internal : ∀ a ∈ m.addresses, regionOf a = .internal
  distinct : m.addresses.Nodup

/-- Legal parameters (R8): legal I/O addresses, and no modulus or period is 0. The defaults are legal
(`Obligations.InvariantsAtReset`). -/
structure Params.Valid (p : Params) : Prop where
  io : p.io.Valid
  clock : 0 < p.clock
  divPeriod : 0 < p.divPeriod
  timaPeriods : ∀ code, 0 < p.timaPeriods.of code

/-- The cycle parameters are at their defaults: the table of R85, and 1, 5 and 1 (R8). -/
structure Params.DefaultCycles (p : Params) : Prop where
  table : p.cycles = [] ∧ p.cyclesNotTaken = []
  invalid : p.invalidCycles = Config.invalidCycles
  int : p.intCycles = Config.intCycles
  idle : p.haltIdleCycles = Config.haltIdleCycles

/-! ## Completing, and frames -/

/-- Instruction `i` completes in state `s`: `exec` answers a next state with the given `pc`, the given
number of cycles returned and counted modulo `CLOCK`, and `post`. -/
def Completes (i : Instr) (s : State) (pc : Word) (cycles : Nat) (post : State → Prop) : Prop :=
  ∃ t, exec i s = .next t ∧ t.cpu.pc = pc ∧ t.cpu.spent = cycles ∧
    t.cpu.cycle = (s.cpu.cycle + cycles) % s.params.clock ∧ post t

/-- Instruction `i` completes in `CYCLES(i)` cycles, `table` by default (R8, R85). -/
def CompletesIn (i : Instr) (s : State) (pc : Word) (table : Nat) (post : State → Prop) : Prop :=
  Completes i s pc (s.cyclesOf i table) post

/-- Every 8-bit register outside `l` is unchanged (`F` is said apart). -/
def KeepsRegs (l : List Reg8) (s t : State) : Prop := ∀ r, r ∉ l → t.cpu.reg r = s.cpu.reg r

/-- `F` and `SP` are unchanged. -/
def KeepsFlagsSp (s t : State) : Prop := t.cpu.f = s.cpu.f ∧ t.cpu.sp = s.cpu.sp

/-- `IME` and `halted` are unchanged. -/
def KeepsControl (s t : State) : Prop := t.cpu.ime = s.cpu.ime ∧ t.cpu.halted = s.cpu.halted

/-- Nothing is stored: every address reads as before, and nothing but the CPU has changed (no timer,
PPU, cartridge, serial, joypad or launch state). -/
def NoStore (s t : State) : Prop :=
  (∀ x, busRead x t = busRead x s) ∧ t = s.withCpu t.cpu

/-- One byte is stored: outside the CPU the state is that of the bus write, and every address the store
does not reach reads as before. -/
def StoresByte (a : Word) (v : Byte) (s t : State) : Prop :=
  (∀ x, ¬ storeReaches a s x → busRead x t = busRead x s) ∧ t = (busWrite a v s).withCpu t.cpu

/-- Two bytes are stored, `v1` at `a1` first, then `v2` at `a2`. -/
def StoresTwo (a1 : Word) (v1 : Byte) (a2 : Word) (v2 : Byte) (s t : State) : Prop :=
  (∀ x, ¬ storeReaches a1 s x → ¬ storeReaches a2 (busWrite a1 v1 s) x →
    busRead x t = busRead x s) ∧
  t = (busWrite a2 v2 (busWrite a1 v1 s)).withCpu t.cpu

/-- `Push16(v)` from `SP` (R106): high byte at `SP - 1`, then low byte at `SP - 2`, `SP` down by 2. -/
def Pushes (v : Word) (s t : State) : Prop :=
  t.cpu.sp = s.cpu.sp - 2#16 ∧
  StoresTwo (s.cpu.sp - 1#16) (hiByte v) (s.cpu.sp - 2#16) (loByte v) s t

/-- An 8-bit operand takes value `v` and every other register keeps its own: a register changes, or one
byte is stored at `HL`. -/
def OperandBecomes (o : Operand8) (v : Byte) (s t : State) : Prop :=
  match o with
  | .reg r => t.cpu.reg r = v ∧ KeepsRegs [r] s t ∧ NoStore s t
  | .mhl => KeepsRegs [] s t ∧ StoresByte (s.cpu.pair .hl) v s t

/-- The value of an accumulator operation's source (R117 to R119). -/
def State.aluSource (s : State) : AluSource → Byte
  | .operand (.reg r) => s.cpu.reg r
  | .operand .mhl => busRead (s.cpu.pair .hl) s
  | .imm n8 => n8

/-- The four flags of `t`, with bits 3:0 of `F` zero (R18, R22). -/
def FlagsAre (z n h c : Prop) (t : State) : Prop :=
  (t.cpu.flagZ = true ↔ z) ∧ (t.cpu.flagN = true ↔ n) ∧ (t.cpu.flagH = true ↔ h) ∧
    (t.cpu.flagC = true ↔ c) ∧ t.cpu.f &&& 0x0F#8 = 0#8

/-- The encoding of an accumulator operation (R117 to R140). -/
def aluEncoding (op : AluOp) : AluSource → List Byte
  | .operand o => [byteOf (0x80 + 8 * op.code + o.code)]
  | .imm n8 => [byteOf (0xC6 + 8 * op.code), n8]

/-! ## Shapes of instruction statements -/

/-- `i` is encoded as `bytes` and, from every state, completes by loading `v` into register `dst`; nothing
else changes. -/
def LoadsByte (i : Instr) (bytes : List Byte) (dst : Reg8) (v : State → Byte) (length : Word)
    (cycles : Nat) : Prop :=
  encode i = bytes ∧
  ∀ s, CompletesIn i s (s.cpu.pc + length) cycles (fun t =>
    t.cpu.reg dst = v s ∧ KeepsRegs [dst] s t ∧ KeepsFlagsSp s t ∧ KeepsControl s t ∧ NoStore s t)

/-- `i` is encoded as `bytes` and, from every state, completes by storing byte `v` at address `a`;
nothing else changes. -/
def StoresFrom (i : Instr) (bytes : List Byte) (a : State → Word) (v : State → Byte) (length : Word)
    (cycles : Nat) : Prop :=
  encode i = bytes ∧
  ∀ s, CompletesIn i s (s.cpu.pc + length) cycles (fun t =>
    KeepsRegs [] s t ∧ KeepsFlagsSp s t ∧ KeepsControl s t ∧ StoresByte (a s) (v s) s t)

/-- `i` is encoded as `bytes` and, from every state, completes by moving `pc` to `target`; nothing else
changes. -/
def JumpsTo (i : Instr) (bytes : List Byte) (target : State → Word) (cycles : State → Nat) : Prop :=
  encode i = bytes ∧
  ∀ s, Completes i s (target s) (cycles s) (fun t =>
    KeepsRegs [] s t ∧ KeepsFlagsSp s t ∧ KeepsControl s t ∧ NoStore s t)

/-- `i` is encoded as `bytes` and, from every state, completes by pushing the address of the following
instruction and moving `pc` to `target`. -/
def CallsTo (i : Instr) (bytes : List Byte) (target : Word) (length : Word) (cycles : Nat)
    (s : State) : Prop :=
  encode i = bytes ∧
  CompletesIn i s target cycles (fun t =>
    Pushes (s.cpu.pc + length) s t ∧ KeepsRegs [] s t ∧ t.cpu.f = s.cpu.f ∧ KeepsControl s t)

/-- The word on top of the stack (R107): low byte at `SP`, high byte at `SP + 1`. -/
def topWord (s : State) : Word := mkWord (busRead (s.cpu.sp + 1#16) s) (busRead s.cpu.sp s)

/-- The registers of a pair. -/
def pairRegs : Pair → List Reg8
  | .bc => [.b, .c] | .de => [.d, .e] | .hl => [.h, .l] | .sp => []

/-- A pair takes value `v`; every other register, `F` and, unless it is the pair, `SP` are
unchanged. -/
def PairBecomes (p : Pair) (v : Word) (s t : State) : Prop :=
  t.cpu.pair p = v ∧ KeepsRegs (pairRegs p) s t ∧ (p ≠ .sp → t.cpu.sp = s.cpu.sp)

/-- `Cond(cc)` (R75). -/
def CondHolds (cc : Cond) (s : State) : Prop :=
  match cc with
  | .nz => s.cpu.flagZ = false
  | .z => s.cpu.flagZ = true
  | .nc => s.cpu.flagC = false
  | .c => s.cpu.flagC = true

/-- Bit `j` of the result of a rotate or shift of `v`, `carry` the old `F.C` (R157 to R172). -/
def rotatedBit (op : RotOp) (v : Byte) (carry : Bool) (j : Nat) : Bool :=
  match op with
  | .rlc => bitOf v ((j + 7) % 8)
  | .rrc => bitOf v ((j + 1) % 8)
  | .rl => if j = 0 then carry else bitOf v (j - 1)
  | .rr => if j = 7 then carry else bitOf v (j + 1)
  | .sla => if j = 0 then false else bitOf v (j - 1)
  | .sra => if j = 7 then bitOf v 7 else bitOf v (j + 1)
  | .swap => bitOf v ((j + 4) % 8)
  | .srl => if j = 7 then false else bitOf v (j + 1)

/-- The bit a rotate or shift moves to `C` (R157 to R172). -/
def shiftedOut (op : RotOp) (v : Byte) : Bool :=
  match op with
  | .rlc | .rl | .sla => bitOf v 7
  | .rrc | .rr | .sra | .srl => bitOf v 0
  | .swap => false

/-- What an extended rotate or shift does (R157 to R172). -/
def RotatesOperand (op : RotOp) (o : Operand8) : Prop :=
  encode (Instr.rotOn op o) = [0xCB#8, byteOf (8 * op.code + o.code)] ∧
  ∀ s, CompletesIn (Instr.rotOn op o) s (s.cpu.pc + 2#16) (o.pick 2 4) (fun t =>
    (∃ r, OperandBecomes o r s t ∧
      (∀ j, j < 8 → bitOf r j = rotatedBit op (s.operand o) s.cpu.flagC j) ∧
      FlagsAre (r = 0#8) False False (shiftedOut op (s.operand o) = true) t) ∧
    t.cpu.sp = s.cpu.sp ∧ KeepsControl s t)

/-- TIMA after `n` increments from `v` with modulo `tma`, and whether one of them overflowed (R199). -/
def timaAfter (tma : Byte) : Nat → Byte → Byte × Bool
  | 0, v => (v, false)
  | n + 1, v =>
    if v = 0xFF#8 then ((timaAfter tma n tma).1, true)
    else timaAfter tma n (v + 1#8)

/-- The bit number of a button in JOYP (R60). -/
def Button.bit : Button → Nat
  | .right | .a => 0 | .left | .b => 1 | .up | .select => 2 | .down | .start => 3

/-! ## Quiet states -/

/-- Nothing stands between the start of a step and the instruction at `pc`: no host action is due, the
overlay is not about to end, the CPU is not halted, no interrupt is dispatched. -/
structure Quiet (s : State) : Prop where
  noHostAction : dueHostEvents s.launch = []
  noOverlayEnd : s.overlayActive = true → s.cpu.pc ≠ 0x0100#16
  running : s.cpu.halted = false
  noDispatch : s.cpu.ime = true → pendingInterrupts s = 0#8

/-! ## Invariants -/

/-- Every store is in canonical form and holds nothing outside its declared range (R29, R30, R244). -/
structure MemoryInv (s : State) : Prop where
  mem : Memory.wf s.mem
  memRange : ∀ x ∈ s.mem, x.1 < 65536 ∧ regionOf (BitVec.ofNat 16 x.1) = .internal
  vram : Memory.wf s.vram
  vramRange : Store.below 8192 s.vram
  oam : Memory.wf s.oam
  oamRange : Store.below 160 s.oam
  frame : Store.wf s.ppu.fb
  frameRange : Store.below 23040 s.ppu.fb
  rom : ∀ c, s.cart = some c → Memory.wf c.rom ∧ Store.below (romBankBytes * c.romBanks) c.rom
  ram : ∀ c, s.cart = some c → Memory.wf c.ram ∧ Store.below c.ramSize c.ram
  initMem : Memory.wf s.launch.initMem
  initMemRange :
    ∀ x ∈ s.launch.initMem, x.1 < 65536 ∧ regionOf (BitVec.ofNat 16 x.1) = .internal
  initVram : Memory.wf s.launch.initVram ∧ Store.below 8192 s.launch.initVram
  initOam : Memory.wf s.launch.initOam ∧ Store.below 160 s.launch.initOam

/-- The CPU's invariant: bits 3:0 of `F` are zero (R18) and the cycle counter is below its modulus
(R27). -/
structure CpuInv (s : State) : Prop where
  flags : s.cpu.f &&& 0x0F#8 = 0#8
  cycle : s.cpu.cycle < s.params.clock

/-- The mapper's invariant: the ROM bank register is never 0 (R235) and the bank count and RAM size are
those of the size tables (R233); the overlay is active only where there is a boot program (R240). -/
structure MapperInv (s : State) : Prop where
  bank1 : ∀ c, s.cart = some c → c.bank1 ≠ 0#5
  banks : ∀ c, s.cart = some c → ∃ code : Byte, romBanksOf code = some c.romBanks
  ramSize : ∀ c, s.cart = some c → ∃ code : Byte, ramSizeOf code = some c.ramSize
  overlay : s.overlayActive = true → s.launch.bootOverlay = true

/-- The timer's invariant (R203). -/
structure TimerInv (s : State) : Prop where
  divAcc : s.timer.divAcc < s.params.divPeriod
  timaAcc : bitOf (busRead s.io.tac s) 2 = true →
    s.timer.timaAcc < timaPeriodOf s.params.timaPeriods (busRead s.io.tac s)

/-- The PPU's invariant: at most ten sprites (R213), at most sixteen queued pixels (R222), at most seven
pixels to discard (R214), a sprite fetch names a selected sprite (R217), the output column is below
160 throughout mode 3 (R224), and the tick count is within the mode's part of the line (R206). -/
structure PpuInv (s : State) : Prop where
  sprites : s.ppu.sprites.length ≤ 10
  fifo : s.ppu.fifo.length ≤ 16
  discard : s.ppu.discard ≤ 7
  slot : s.ppu.fetcher.kind = .obj → s.ppu.fetcher.slot < s.ppu.sprites.length
  column : s.ppu.mode = .transfer → s.ppu.lx < 160
  scanDot : s.ppu.mode = .scan → s.ppu.dot < 80
  vblankDot : s.ppu.mode = .vblank → s.ppu.dot < 456

end Sys2Proof.Machine
end

