-- ==== Sys2Proof/Certificates/Slice0/Obligations.lean ====
section
/-! DEFINITION. The statements for the provers. Each formalises a numbered rule of spec/ or, where its
docstring says "derived", rests on the sections it names. A statement of the form `CompletesIn i s …`
says that `exec i s` answers a next state, from every state. -/

open Sys2Proof Sys2Proof.Machine

/-! ## Encoding -/

/-- Derived (R69 to R82): decoding the encoding of any instruction gives it back with the bytes after
it, every operand at every value. -/
def Obligations.DecodeInvertsEncode : Prop :=
  ∀ (i : Instr) (rest : List Byte), decode (encode i ++ rest) = .ok (i, rest)

/-- Derived (R69, R71, R80, R81, R86): what decodes is the encoding of what it decodes to, of the
length its first byte asks for; a sequence is refused exactly when it is shorter than that. -/
def Obligations.EncodeInvertsDecode : Prop :=
  (∀ bytes i rest, decode bytes = .ok (i, rest) →
    encode i ++ rest = bytes ∧ bytesWellFormed (encode i) = true) ∧
  (∀ b0 rest, decode (b0 :: rest) = .error .truncated ↔ rest.length + 1 < lengthByFirstByte b0) ∧
  (∀ bytes, decode bytes = .error .noBytes ↔ bytes = [])

/-- Derived (R80, R81): words written out from the opcode grids decode to the instructions they stand
for. -/
def Obligations.DecodedWords : Prop :=
  decode [0x00#8] = .ok (.nop, []) ∧
  decode [0x41#8] = .ok (.ld_b_c, []) ∧
  decode [0x76#8] = .ok (.halt, []) ∧
  decode [0x21#8, 0x50#8, 0x01#8] = .ok (.ld_hl_n16 0x0150#16, []) ∧
  decode [0x20#8, 0xFA#8, 0x76#8] = .ok (.jr_nz_e8 0xFA#8, [0x76#8]) ∧
  decode [0xEA#8, 0x00#8, 0xC1#8] = .ok (.ld_ma16_a 0xC100#16, []) ∧
  decode [0xE0#8, 0x46#8] = .ok (.ldh_ma8_a 0x46#8, []) ∧
  decode [0x9E#8] = .ok (.sbc_a_mhl, []) ∧
  decode [0xF8#8, 0x80#8] = .ok (.ld_hl_spe8 0x80#8, []) ∧
  decode [0xFF#8] = .ok (.rst_38h, []) ∧
  decode [0xCB#8, 0x37#8] = .ok (.swap_a, []) ∧
  decode [0xCB#8, 0x7E#8] = .ok (.bit_7_mhl, []) ∧
  decode [0xDD#8] = .ok (.invalid_dd, [])

/-! ## The step -/

/-- Derived (R240, R248, R255, R261): from a quiet state whose bytes at `pc` decode to `i`, a step is
`exec i` and then the timer, the PPU (each given the cycles the instruction returned) and the model's
update count; from any state, a step is the host actions that are due, the end of the overlay at
`pc = 0x0100`, the CPU step, and the devices. -/
def Obligations.StepRunsDecodedInstruction : Prop :=
  let devices : State → State := fun t =>
    countUpdate (ppuUpdate t.cpu.spent (timerUpdate t.cpu.spent t))
  let thenDevices : Result → Result := fun r =>
    match r with
    | .next t => .next (devices t)
    | .fault r => .fault r
    | .refused r => .refused r
  (∀ (s : State) (i : Instr) (rest : List Byte), Quiet s →
    decode [busRead s.cpu.pc s, busRead (s.cpu.pc + 1#16) s, busRead (s.cpu.pc + 2#16) s]
      = .ok (i, rest) →
    step s = thenDevices (exec i s)) ∧
  (∀ s : State,
    let acted := (dueHostEvents s.launch).foldl applyHostEvent s
    step s = thenDevices (cpuStep
      (if acted.overlayActive = true ∧ acted.cpu.pc = 0x0100#16 then
        { acted with overlayActive := false } else acted)))

/-- Derived (R243, R244): no step faults and none is refused, from any state, reachable or not. -/
def Obligations.StepAlwaysAnswersNext : Prop := ∀ s : State, ∃ t, step s = .next t

/-- R248, R249: the CPU step, by the enabled pending sources, `IME` and `halted`
(`HALT_IDLE_CYCLES` is 1 by default). -/
def Obligations.CpuStepBranches : Prop :=
  Params.default.haltIdleCycles = 1 ∧
  ∀ s : State,
    let pending := busRead s.io.ienable s &&& busRead s.io.iflag s &&& 0x1F#8
    let awake : State := { s with cpu := { s.cpu with halted := false } }
    (∀ i, i < 5 → bitOf pending i = true → (∀ j, j < i → bitOf pending j = false) →
      s.cpu.ime = true → cpuStep s = dispatchInterrupt i awake) ∧
    (∀ i rest, pending ≠ 0#8 → s.cpu.ime = false →
      decode [busRead s.cpu.pc s, busRead (s.cpu.pc + 1#16) s, busRead (s.cpu.pc + 2#16) s]
        = .ok (i, rest) →
      cpuStep s = exec i awake) ∧
    (pending = 0#8 → s.cpu.halted = true →
      cpuStep s = .next { s with cpu := { s.cpu with
        cycle := (s.cpu.cycle + s.params.haltIdleCycles) % s.params.clock
        spent := s.params.haltIdleCycles } }) ∧
    (∀ i rest, pending = 0#8 → s.cpu.halted = false →
      decode [busRead s.cpu.pc s, busRead (s.cpu.pc + 1#16) s, busRead (s.cpu.pc + 2#16) s]
        = .ok (i, rest) →
      cpuStep s = exec i s)

/-- Derived (R250; the wake-up is R248's, in CpuStepBranches): interrupt entry clears the `IF` bit, then
`IME`, pushes `PC` and goes to the source's vector; it costs `INT_CYCLES` and changes nothing else. -/
def Obligations.InterruptEntry : Prop :=
  ∀ (s : State) (i : Nat), i < 5 →
    ∃ t, dispatchInterrupt i s = .next t ∧
      t.cpu.pc = s.params.vectors.of i ∧ t.cpu.ime = false ∧
      t.cpu.spent = s.params.intCycles ∧
      t.cpu.cycle = (s.cpu.cycle + s.params.intCycles) % s.params.clock ∧
      t.cpu.halted = s.cpu.halted ∧ t.cpu.f = s.cpu.f ∧ KeepsRegs [] s t ∧
      Pushes s.cpu.pc
        (busWrite s.io.iflag (busRead s.io.iflag s &&& ~~~(1#8 <<< i)) s) t

/-- Derived (R246; `value = false` is the spec's decision D31): `SetInterruptFlag` changes one bit of
`IF` and nothing else. -/
def Obligations.SetInterruptFlagOneBit : Prop :=
  ∀ (s : State) (i : Nat) (value : Bool), s.params.Valid → i < 5 →
    let t := setInterruptFlag i value s
    (∀ j, j < 8 →
      bitOf (busRead s.io.iflag t) j =
        if j = i then value else bitOf (busRead s.io.iflag s) j) ∧
    (∀ x, x ≠ s.io.iflag → busRead x t = busRead x s) ∧
    t = { s with mem := t.mem }

/-- Derived (R191, R248, R259): a halted CPU with no source enabled in `IE` stays halted, at the same
`pc`, with the same registers and `IE`, whatever the devices do, while the host does not act. -/
def Obligations.StuckHaltStaysStuck : Prop :=
  ∀ (s t : State), s.params.Valid → dueHostEvents s.launch = [] → s.cpu.halted = true →
    busRead s.io.ienable s &&& 0x1F#8 = 0#8 → step s = .next t →
    t.cpu.halted = true ∧ t.cpu.pc = s.cpu.pc ∧ t.cpu.spent = s.params.haltIdleCycles ∧
      t.cpu.ime = s.cpu.ime ∧
      KeepsRegs [] s t ∧ KeepsFlagsSp s t ∧
      busRead s.io.ienable t = busRead s.io.ienable s

/-! ## 8-bit loads -/

/-- R87, R88, R89, R92, R93, R96, R98, R100: the loads of a byte into a register. -/
def Obligations.LoadByteIntoRegister : Prop :=
  (∀ r r' : Reg8, LoadsByte (.ldRegReg r r') [byteOf (0x40 + 8 * r.code + r'.code)] r
    (fun s => s.cpu.reg r') 1#16 1) ∧
  (∀ (r : Reg8) (n8 : Byte), LoadsByte (.ldRegImm r n8) [byteOf (0x06 + 8 * r.code), n8] r
    (fun _ => n8) 2#16 2) ∧
  (∀ r : Reg8, LoadsByte (.ldRegMem r) [byteOf (0x46 + 8 * r.code)] r
    (fun s => busRead (s.cpu.pair .hl) s) 1#16 2) ∧
  LoadsByte .ld_a_mbc [0x0A#8] .a (fun s => busRead (s.cpu.pair .bc) s) 1#16 2 ∧
  LoadsByte .ld_a_mde [0x1A#8] .a (fun s => busRead (s.cpu.pair .de) s) 1#16 2 ∧
  (∀ a16 : Word, LoadsByte (.ld_a_ma16 a16) [0xFA#8, loByte a16, hiByte a16] .a
    (fun s => busRead a16 s) 3#16 4) ∧
  LoadsByte .ldh_a_mc [0xF2#8] .a
    (fun s => busRead (BitVec.ofNat 16 (0xFF00 + s.cpu.c.toNat)) s) 1#16 2 ∧
  (∀ a8 : Byte, LoadsByte (.ldh_a_ma8 a8) [0xF0#8, a8] .a
    (fun s => busRead (BitVec.ofNat 16 (0xFF00 + a8.toNat)) s) 2#16 3)

/-- R90, R91, R94, R95, R97, R99, R101: the stores of a byte. -/
def Obligations.StoreByte : Prop :=
  (∀ r : Reg8, StoresFrom (.ldMemReg r) [byteOf (0x70 + r.code)] (fun s => s.cpu.pair .hl)
    (fun s => s.cpu.reg r) 1#16 2) ∧
  (∀ n8 : Byte, StoresFrom (.ld_mhl_n8 n8) [0x36#8, n8] (fun s => s.cpu.pair .hl)
    (fun _ => n8) 2#16 3) ∧
  StoresFrom .ld_mbc_a [0x02#8] (fun s => s.cpu.pair .bc) (fun s => s.cpu.a) 1#16 2 ∧
  StoresFrom .ld_mde_a [0x12#8] (fun s => s.cpu.pair .de) (fun s => s.cpu.a) 1#16 2 ∧
  (∀ a16 : Word, StoresFrom (.ld_ma16_a a16) [0xEA#8, loByte a16, hiByte a16] (fun _ => a16)
    (fun s => s.cpu.a) 3#16 4) ∧
  StoresFrom .ldh_mc_a [0xE2#8] (fun s => BitVec.ofNat 16 (0xFF00 + s.cpu.c.toNat))
    (fun s => s.cpu.a) 1#16 2 ∧
  (∀ a8 : Byte, StoresFrom (.ldh_ma8_a a8) [0xE0#8, a8]
    (fun _ => BitVec.ofNat 16 (0xFF00 + a8.toNat)) (fun s => s.cpu.a) 2#16 3)

/-- R102 to R105: the loads and stores of `A` at `HL` that step `HL` by one, modulo 65536. -/
def Obligations.LoadAndStoreSteppingHl : Prop :=
  encode .ld_a_mhli = [0x2A#8] ∧ encode .ld_a_mhld = [0x3A#8] ∧
  encode .ld_mhli_a = [0x22#8] ∧ encode .ld_mhld_a = [0x32#8] ∧
  ∀ s : State,
    (∀ id ∈ [(Instr.ld_a_mhli, 1#16), (Instr.ld_a_mhld, -1#16)],
      CompletesIn id.1 s (s.cpu.pc + 1#16) 2 (fun t =>
        t.cpu.a = busRead (s.cpu.pair .hl) s ∧ t.cpu.pair .hl = s.cpu.pair .hl + id.2 ∧
        KeepsRegs [.a, .h, .l] s t ∧ KeepsFlagsSp s t ∧ KeepsControl s t ∧ NoStore s t)) ∧
    (∀ id ∈ [(Instr.ld_mhli_a, 1#16), (Instr.ld_mhld_a, -1#16)],
      CompletesIn id.1 s (s.cpu.pc + 1#16) 2 (fun t =>
        t.cpu.pair .hl = s.cpu.pair .hl + id.2 ∧
        KeepsRegs [.h, .l] s t ∧ KeepsFlagsSp s t ∧ KeepsControl s t ∧
        StoresByte (s.cpu.pair .hl) s.cpu.a s t))

/-! ## 16-bit loads and the stack -/

/-- R108, R109, R110: the 16-bit loads and the store of `SP`, low byte at the lower address. -/
def Obligations.LoadPairAndStoreSp : Prop :=
  (∀ (p : Pair) (n16 : Word),
    encode (.ldPairImm p n16) = [byteOf (0x01 + 16 * p.code), loByte n16, hiByte n16] ∧
    ∀ s, CompletesIn (.ldPairImm p n16) s (s.cpu.pc + 3#16) 3 (fun t =>
      PairBecomes p n16 s t ∧ t.cpu.f = s.cpu.f ∧ KeepsControl s t ∧ NoStore s t)) ∧
  (∀ a16 : Word, encode (.ld_ma16_sp a16) = [0x08#8, loByte a16, hiByte a16] ∧
    ∀ s, CompletesIn (.ld_ma16_sp a16) s (s.cpu.pc + 3#16) 5 (fun t =>
      KeepsRegs [] s t ∧ KeepsFlagsSp s t ∧ KeepsControl s t ∧
      StoresTwo a16 (loByte s.cpu.sp) (a16 + 1#16) (hiByte s.cpu.sp) s t)) ∧
  (encode .ld_sp_hl = [0xF9#8] ∧
    ∀ s, CompletesIn .ld_sp_hl s (s.cpu.pc + 1#16) 2 (fun t =>
      t.cpu.sp = s.cpu.pair .hl ∧ KeepsRegs [] s t ∧ t.cpu.f = s.cpu.f ∧ KeepsControl s t ∧
      NoStore s t))

/-- R111, R152: `SP` plus a signed displacement, into `HL` or `SP`; `H` and `C` come from the unsigned
addition to the low byte. -/
def Obligations.SpPlusDisplacement : Prop :=
  ∀ e8 : Byte,
    encode (.ld_hl_spe8 e8) = [0xF8#8, e8] ∧ encode (.add_sp_e8 e8) = [0xE8#8, e8] ∧
    ∀ s : State,
      let sum : Word := BitVec.ofInt 16 ((s.cpu.sp.toNat : Int) + e8.toInt)
      let flags := FlagsAre False False (s.cpu.sp.toNat % 16 + e8.toNat % 16 > 15)
        (s.cpu.sp.toNat % 256 + e8.toNat > 255)
      CompletesIn (.ld_hl_spe8 e8) s (s.cpu.pc + 2#16) 3 (fun t =>
        PairBecomes .hl sum s t ∧ flags t ∧ KeepsControl s t ∧ NoStore s t) ∧
      CompletesIn (.add_sp_e8 e8) s (s.cpu.pc + 2#16) 4 (fun t =>
        PairBecomes .sp sum s t ∧ flags t ∧ KeepsControl s t ∧ NoStore s t)

/-- R106, R107, R112, R113, R114: `PUSH` stores the high byte at `SP - 1`, then the low byte at `SP -
2`; `POP` reads the low byte at `SP`, the high byte at `SP + 1`; `POP AF` clears bits 3:0 of `F`. -/
def Obligations.PushAndPop : Prop :=
  (∀ q : StackPair,
    encode (.push q) = [byteOf (0xC5 + 16 * q.code)] ∧
    ∀ s, CompletesIn (.push q) s (s.cpu.pc + 1#16) 4 (fun t =>
      Pushes (s.cpu.stackPair q) s t ∧ KeepsRegs [] s t ∧ t.cpu.f = s.cpu.f ∧ KeepsControl s t)) ∧
  (∀ q : StackPair, encode (.pop q) = [byteOf (0xC1 + 16 * q.code)]) ∧
  (∀ qp ∈ [(StackPair.bc, Pair.bc), (StackPair.de, Pair.de), (StackPair.hl, Pair.hl)], ∀ s : State,
    CompletesIn (.pop qp.1) s (s.cpu.pc + 1#16) 3 (fun t =>
      t.cpu.pair qp.2 = topWord s ∧ t.cpu.sp = s.cpu.sp + 2#16 ∧ KeepsRegs (pairRegs qp.2) s t ∧
      t.cpu.f = s.cpu.f ∧ KeepsControl s t ∧ NoStore s t)) ∧
  (∀ s : State, CompletesIn (.pop .af) s (s.cpu.pc + 1#16) 3 (fun t =>
    t.cpu.a = hiByte (topWord s) ∧ t.cpu.f = loByte (topWord s) &&& 0xF0#8 ∧
    t.cpu.sp = s.cpu.sp + 2#16 ∧ KeepsRegs [.a] s t ∧ KeepsControl s t ∧ NoStore s t))

/-! ## 8-bit arithmetic and logic -/

/-- R115, R117 to R122: `ADD` and `ADC`, result and flags on naturals. -/
def Obligations.AddToAccumulator : Prop :=
  ∀ op ∈ [AluOp.add, AluOp.adc], ∀ src : AluSource,
    encode (.aluOn op src) = aluEncoding op src ∧
    ∀ s : State,
      let a := s.cpu.a.toNat
      let b := (s.aluSource src).toNat
      let ci := if op = .adc ∧ s.cpu.flagC = true then 1 else 0
      CompletesIn (.aluOn op src) s (s.cpu.pc + src.length) src.cycles (fun t =>
        t.cpu.a.toNat = (a + b + ci) % 256 ∧
        FlagsAre (t.cpu.a = 0#8) False (a % 16 + b % 16 + ci > 15) (a + b + ci > 255) t ∧
        KeepsRegs [.a] s t ∧ t.cpu.sp = s.cpu.sp ∧ KeepsControl s t ∧ NoStore s t)

/-- R116, R123 to R128, R138 to R140: `SUB`, `SBC` and `CP`, result and flags on integers; `CP` writes
no register. -/
def Obligations.SubtractAndCompare : Prop :=
  (∀ op ∈ [AluOp.sub, AluOp.sbc], ∀ src : AluSource,
    encode (.aluOn op src) = aluEncoding op src ∧
    ∀ s : State,
      let a : Int := s.cpu.a.toNat
      let b : Int := (s.aluSource src).toNat
      let ci : Int := if op = .sbc ∧ s.cpu.flagC = true then 1 else 0
      CompletesIn (.aluOn op src) s (s.cpu.pc + src.length) src.cycles (fun t =>
        (t.cpu.a.toNat : Int) = (a - b - ci) % 256 ∧
        FlagsAre (t.cpu.a = 0#8) True (a % 16 - b % 16 - ci < 0) (a - b - ci < 0) t ∧
        KeepsRegs [.a] s t ∧ t.cpu.sp = s.cpu.sp ∧ KeepsControl s t ∧ NoStore s t)) ∧
  (∀ src : AluSource,
    encode (.aluOn .cp src) = aluEncoding .cp src ∧
    ∀ s : State,
      let a := s.cpu.a.toNat
      let b := (s.aluSource src).toNat
      CompletesIn (.aluOn .cp src) s (s.cpu.pc + src.length) src.cycles (fun t =>
        FlagsAre (a = b) True (a % 16 < b % 16) (a < b) t ∧
        KeepsRegs [] s t ∧ t.cpu.sp = s.cpu.sp ∧ KeepsControl s t ∧ NoStore s t))

/-- R129 to R137: `AND`, `XOR`, `OR`. -/
def Obligations.LogicOnAccumulator : Prop :=
  ∀ of ∈ [(AluOp.and, (fun a b : Byte => a &&& b)), (AluOp.xor, fun a b => a ^^^ b),
      (AluOp.or, fun a b => a ||| b)],
    ∀ src : AluSource,
      encode (.aluOn of.1 src) = aluEncoding of.1 src ∧
      ∀ s : State, CompletesIn (.aluOn of.1 src) s (s.cpu.pc + src.length) src.cycles (fun t =>
        t.cpu.a = of.2 s.cpu.a (s.aluSource src) ∧
        FlagsAre (t.cpu.a = 0#8) False (of.1 = .and) False t ∧
        KeepsRegs [.a] s t ∧ t.cpu.sp = s.cpu.sp ∧ KeepsControl s t ∧ NoStore s t)

/-- R141 to R144: `INC` and `DEC` of a register or of the byte at `HL`; the flags come from the value
read, `C` is unchanged. -/
def Obligations.IncrementAndDecrement : Prop :=
  ∀ o : Operand8,
    encode (.incOn o) = [byteOf (0x04 + 8 * o.code)] ∧
    encode (.decOn o) = [byteOf (0x05 + 8 * o.code)] ∧
    ∀ s : State,
      let v := s.operand o
      CompletesIn (.incOn o) s (s.cpu.pc + 1#16) (o.pick 1 3) (fun t =>
        OperandBecomes o (v + 1#8) s t ∧
        FlagsAre (v = 0xFF#8) False (v.toNat % 16 = 15) (s.cpu.flagC = true) t ∧
        t.cpu.sp = s.cpu.sp ∧ KeepsControl s t) ∧
      CompletesIn (.decOn o) s (s.cpu.pc + 1#16) (o.pick 1 3) (fun t =>
        OperandBecomes o (v - 1#8) s t ∧
        FlagsAre (v = 0x01#8) True (v.toNat % 16 = 0) (s.cpu.flagC = true) t ∧
        t.cpu.sp = s.cpu.sp ∧ KeepsControl s t)

/-- R145: `DAA`, on naturals after an addition and on integers after a subtraction. -/
def Obligations.DecimalAdjust : Prop :=
  encode .daa = [0x27#8] ∧
  ∀ s : State, CompletesIn .daa s (s.cpu.pc + 1#16) 1 (fun t =>
    let a := s.cpu.a.toNat
    (s.cpu.flagN = false →
      let low := s.cpu.flagH = true ∨ a % 16 > 9
      let high := s.cpu.flagC = true ∨ a > 0x99
      ∃ dl dh : Nat, (low → dl = 0x06) ∧ (¬ low → dl = 0) ∧ (high → dh = 0x60) ∧ (¬ high → dh = 0) ∧
        t.cpu.a.toNat = (a + dl + dh) % 256 ∧ FlagsAre (t.cpu.a = 0#8) False False high t) ∧
    (s.cpu.flagN = true →
      let dl : Int := if s.cpu.flagH = true then 0x06 else 0
      let dh : Int := if s.cpu.flagC = true then 0x60 else 0
      (t.cpu.a.toNat : Int) = ((a : Int) - dl - dh) % 256 ∧
        FlagsAre (t.cpu.a = 0#8) True False (s.cpu.flagC = true) t) ∧
    KeepsRegs [.a] s t ∧ t.cpu.sp = s.cpu.sp ∧ KeepsControl s t ∧ NoStore s t)

/-- R146, R147, R148: `CPL`, `SCF`, `CCF`. -/
def Obligations.ComplementAndCarryFlag : Prop :=
  encode .cpl = [0x2F#8] ∧ encode .scf = [0x37#8] ∧ encode .ccf = [0x3F#8] ∧
  ∀ s : State,
    let z := s.cpu.flagZ = true
    let c := s.cpu.flagC = true
    CompletesIn .cpl s (s.cpu.pc + 1#16) 1 (fun t =>
      t.cpu.a = s.cpu.a ^^^ 0xFF#8 ∧ FlagsAre z True True c t ∧
      KeepsRegs [.a] s t ∧ t.cpu.sp = s.cpu.sp ∧ KeepsControl s t ∧ NoStore s t) ∧
    CompletesIn .scf s (s.cpu.pc + 1#16) 1 (fun t =>
      FlagsAre z False False True t ∧
      KeepsRegs [] s t ∧ t.cpu.sp = s.cpu.sp ∧ KeepsControl s t ∧ NoStore s t) ∧
    CompletesIn .ccf s (s.cpu.pc + 1#16) 1 (fun t =>
      FlagsAre z False False (¬ c) t ∧
      KeepsRegs [] s t ∧ t.cpu.sp = s.cpu.sp ∧ KeepsControl s t ∧ NoStore s t)

/-! ## 16-bit arithmetic -/

/-- R149: `ADD HL,rr`, half-carry from bit 11 with both operands masked, carry from bit 15, `Z` kept.
-/
def Obligations.AddToHl : Prop :=
  ∀ p : Pair,
    encode (.addHl p) = [byteOf (0x09 + 16 * p.code)] ∧
    ∀ s : State,
      let a := (s.cpu.pair .hl).toNat
      let b := (s.cpu.pair p).toNat
      CompletesIn (.addHl p) s (s.cpu.pc + 1#16) 2 (fun t =>
        (t.cpu.pair .hl).toNat = (a + b) % 65536 ∧
        FlagsAre (s.cpu.flagZ = true) False (a % 4096 + b % 4096 > 4095) (a + b > 65535) t ∧
        KeepsRegs [.h, .l] s t ∧ t.cpu.sp = s.cpu.sp ∧ KeepsControl s t ∧ NoStore s t)

/-- R150, R151: `INC rr` and `DEC rr`, no flag changed. -/
def Obligations.IncrementAndDecrementPair : Prop :=
  ∀ p : Pair,
    encode (.incPair p) = [byteOf (0x03 + 16 * p.code)] ∧
    encode (.decPair p) = [byteOf (0x0B + 16 * p.code)] ∧
    ∀ s : State,
      CompletesIn (.incPair p) s (s.cpu.pc + 1#16) 2 (fun t =>
        PairBecomes p (s.cpu.pair p + 1#16) s t ∧ t.cpu.f = s.cpu.f ∧ KeepsControl s t ∧
        NoStore s t) ∧
      CompletesIn (.decPair p) s (s.cpu.pc + 1#16) 2 (fun t =>
        PairBecomes p (s.cpu.pair p - 1#16) s t ∧ t.cpu.f = s.cpu.f ∧ KeepsControl s t ∧
        NoStore s t)

/-! ## Rotates, shifts, bits -/

/-- R153 to R156: the rotates of `A`, bit by bit; `Z` is cleared. -/
def Obligations.RotateAccumulator : Prop :=
  ∀ io ∈ [(Instr.rlca, RotOp.rlc), (Instr.rrca, RotOp.rrc), (Instr.rla, RotOp.rl),
      (Instr.rra, RotOp.rr)],
    encode io.1 = [byteOf (0x07 + 8 * io.2.code)] ∧
    ∀ s : State, CompletesIn io.1 s (s.cpu.pc + 1#16) 1 (fun t =>
      (∀ j, j < 8 → bitOf t.cpu.a j = rotatedBit io.2 s.cpu.a s.cpu.flagC j) ∧
      FlagsAre False False False (shiftedOut io.2 s.cpu.a = true) t ∧
      KeepsRegs [.a] s t ∧ t.cpu.sp = s.cpu.sp ∧ KeepsControl s t ∧ NoStore s t)

/-- R157 to R164: `RLC`, `RRC`, `RL`, `RR` of a register or of the byte at `HL`, bit by bit. -/
def Obligations.RotateOperand : Prop :=
  ∀ op ∈ [RotOp.rlc, RotOp.rrc, RotOp.rl, RotOp.rr], ∀ o : Operand8, RotatesOperand op o

/-- R165 to R172: `SLA`, `SRA`, `SWAP`, `SRL` of a register or of the byte at `HL`, bit by bit. -/
def Obligations.ShiftOperand : Prop :=
  ∀ op ∈ [RotOp.sla, RotOp.sra, RotOp.swap, RotOp.srl], ∀ o : Operand8, RotatesOperand op o

/-- R173, R174: `BIT b` writes `Z`, `N`, `H` only. -/
def Obligations.TestBit : Prop :=
  ∀ (b : Num8) (o : Operand8),
    encode (.bitOn b o) = [0xCB#8, byteOf (0x40 + 8 * b.val + o.code)] ∧
    ∀ s : State, CompletesIn (.bitOn b o) s (s.cpu.pc + 2#16) (o.pick 2 3) (fun t =>
      FlagsAre (bitOf (s.operand o) b.val = false) False True (s.cpu.flagC = true) t ∧
      KeepsRegs [] s t ∧ t.cpu.sp = s.cpu.sp ∧ KeepsControl s t ∧ NoStore s t)

/-- R175 to R178: `RES b` and `SET b` change one bit of the operand and no flag. -/
def Obligations.ResetAndSetBit : Prop :=
  ∀ iv ∈ [(Instr.resOn, 0x80, false), (Instr.setOn, 0xC0, true)], ∀ (b : Num8) (o : Operand8),
    encode (iv.1 b o) = [0xCB#8, byteOf (iv.2.1 + 8 * b.val + o.code)] ∧
    ∀ s : State, CompletesIn (iv.1 b o) s (s.cpu.pc + 2#16) (o.pick 2 4) (fun t =>
      (∃ w, OperandBecomes o w s t ∧
        ∀ j, j < 8 → bitOf w j = if j = b.val then iv.2.2 else bitOf (s.operand o) j) ∧
      KeepsFlagsSp s t ∧ KeepsControl s t)

/-! ## Control -/

/-- R179 to R183: the jumps, taken and not taken; a relative target is `pc + 2` plus the signed
displacement. -/
def Obligations.Jumps : Prop :=
  (∀ a16 : Word, JumpsTo (.jp_a16 a16) [0xC3#8, loByte a16, hiByte a16] (fun _ => a16)
    (fun s => s.cyclesOf (.jp_a16 a16) 4)) ∧
  JumpsTo .jp_hl [0xE9#8] (fun s => s.cpu.pair .hl) (fun s => s.cyclesOf .jp_hl 1) ∧
  (∀ e8 : Byte, JumpsTo (.jr_e8 e8) [0x18#8, e8]
    (fun s => BitVec.ofInt 16 ((s.cpu.pc.toNat : Int) + 2 + e8.toInt))
    (fun s => s.cyclesOf (.jr_e8 e8) 3)) ∧
  (∀ (cc : Cond) (a16 : Word),
    encode (.jpCond cc a16) = [byteOf (0xC2 + 8 * cc.code), loByte a16, hiByte a16] ∧
    ∀ s : State, ∃ target cycles,
      (CondHolds cc s → target = a16 ∧ cycles = s.cyclesOf (.jpCond cc a16) 4) ∧
      (¬ CondHolds cc s →
        target = s.cpu.pc + 3#16 ∧ cycles = s.cyclesNotTakenOf (.jpCond cc a16) 3) ∧
      Completes (.jpCond cc a16) s target cycles (fun t =>
        KeepsRegs [] s t ∧ KeepsFlagsSp s t ∧ KeepsControl s t ∧ NoStore s t)) ∧
  (∀ (cc : Cond) (e8 : Byte),
    encode (.jrCond cc e8) = [byteOf (0x20 + 8 * cc.code), e8] ∧
    ∀ s : State, ∃ target cycles,
      (CondHolds cc s →
        target = BitVec.ofInt 16 ((s.cpu.pc.toNat : Int) + 2 + e8.toInt) ∧
          cycles = s.cyclesOf (.jrCond cc e8) 3) ∧
      (¬ CondHolds cc s →
        target = s.cpu.pc + 2#16 ∧ cycles = s.cyclesNotTakenOf (.jrCond cc e8) 2) ∧
      Completes (.jrCond cc e8) s target cycles (fun t =>
        KeepsRegs [] s t ∧ KeepsFlagsSp s t ∧ KeepsControl s t ∧ NoStore s t))

/-- R184, R185, R186: the calls push the address of the following instruction and jump. -/
def Obligations.Calls : Prop :=
  (∀ (a16 : Word) (s : State),
    CallsTo (.call_a16 a16) [0xCD#8, loByte a16, hiByte a16] a16 3#16 6 s) ∧
  (∀ (cc : Cond) (a16 : Word) (s : State), CondHolds cc s →
    CallsTo (.callCond cc a16) [byteOf (0xC4 + 8 * cc.code), loByte a16, hiByte a16] a16 3#16 6 s) ∧
  (∀ (cc : Cond) (a16 : Word) (s : State), ¬ CondHolds cc s →
    Completes (.callCond cc a16) s (s.cpu.pc + 3#16)
        (s.cyclesNotTakenOf (.callCond cc a16) 3) (fun t =>
      KeepsRegs [] s t ∧ KeepsFlagsSp s t ∧ KeepsControl s t ∧ NoStore s t)) ∧
  (∀ (n : Num8) (s : State),
    CallsTo (.rst n) [byteOf (0xC7 + 8 * n.val)] (BitVec.ofNat 16 (8 * n.val)) 1#16 4 s)

/-- R187, R188, R189: the returns pop `pc`; `RETI` also sets `IME`. -/
def Obligations.Returns : Prop :=
  encode .ret = [0xC9#8] ∧ encode .reti = [0xD9#8] ∧
  (∀ cc : Cond, encode (.retCond cc) = [byteOf (0xC0 + 8 * cc.code)]) ∧
  ∀ s : State,
    let popped := fun t : State =>
      t.cpu.sp = s.cpu.sp + 2#16 ∧ KeepsRegs [] s t ∧ t.cpu.f = s.cpu.f ∧
      t.cpu.halted = s.cpu.halted ∧ NoStore s t
    CompletesIn .ret s (topWord s) 4 (fun t => popped t ∧ t.cpu.ime = s.cpu.ime) ∧
    CompletesIn .reti s (topWord s) 4 (fun t => popped t ∧ t.cpu.ime = true) ∧
    (∀ cc : Cond,
      (CondHolds cc s →
        CompletesIn (.retCond cc) s (topWord s) 5 (fun t => popped t ∧ t.cpu.ime = s.cpu.ime)) ∧
      (¬ CondHolds cc s →
        Completes (.retCond cc) s (s.cpu.pc + 1#16)
            (s.cyclesNotTakenOf (.retCond cc) 2) (fun t =>
          KeepsRegs [] s t ∧ KeepsFlagsSp s t ∧ KeepsControl s t ∧ NoStore s t)))

/-! ## System -/

/-- R190, R192, R193, R194, R196: `NOP`, `STOP` and the unassigned bytes only advance `pc`; `DI` and
`EI` also write `IME` (`INVALID_CYCLES` is 1 by default). -/
def Obligations.NoOperationsAndImeWrites : Prop :=
  Params.default.invalidCycles = 1 ∧
  JumpsTo .nop [0x00#8] (fun s => s.cpu.pc + 1#16) (fun s => s.cyclesOf .nop 1) ∧
  (∀ ignored : Byte,
    JumpsTo (.stop ignored) [0x10#8, ignored] (fun s => s.cpu.pc + 2#16)
      (fun s => s.cyclesOf (.stop ignored) 1)) ∧
  (∀ bi ∈ unassignedBytes, JumpsTo bi.2 [bi.1] (fun s => s.cpu.pc + 1#16)
    (fun s => s.params.invalidCycles)) ∧
  (∀ iv ∈ [(Instr.di, 0xF3#8, false), (Instr.ei, 0xFB#8, true)],
    encode iv.1 = [iv.2.1] ∧
    ∀ s : State, CompletesIn iv.1 s (s.cpu.pc + 1#16) 1 (fun t =>
      t.cpu.ime = iv.2.2 ∧ t.cpu.halted = s.cpu.halted ∧ KeepsRegs [] s t ∧ KeepsFlagsSp s t ∧
      NoStore s t))

/-- Derived (R191): `HALT` sets `halted`, advances `pc` and returns 0 cycles. -/
def Obligations.HaltSuspends : Prop :=
  encode .halt = [0x76#8] ∧
  ∀ s : State, CompletesIn .halt s (s.cpu.pc + 1#16) 0 (fun t =>
    t.cpu.halted = true ∧ t.cpu.ime = s.cpu.ime ∧ KeepsRegs [] s t ∧ KeepsFlagsSp s t ∧ NoStore s t)

/-! ## The whole machine -/

/-- Derived (R247, R25, R26, R255): over all instructions, only `EI`, `DI`, `RETI` change `IME`, only
`HALT` changes `halted`, and none touches the timer, the PPU, the joypad, the overlay flag or the
launch arguments. -/
def Obligations.OnlyNamedInstructionsChange : Prop :=
  ∀ (i : Instr) (s t : State), exec i s = .next t →
    (t.cpu.ime ≠ s.cpu.ime → i = .ei ∨ i = .di ∨ i = .reti) ∧
    (t.cpu.halted ≠ s.cpu.halted → i = .halt) ∧
    t.timer = s.timer ∧ t.ppu = s.ppu ∧ t.held = s.held ∧ t.overlayActive = s.overlayActive ∧
    t.launch = s.launch

/-- Derived (R8, R27, R85, R273): the cycle counter moves by the cycles an instruction or a CPU step
returns, modulo `CLOCK`; with the cycle parameters at their defaults (log 4), an instruction returns 0
to 6 cycles, and 0 only where it is `HALT`, and a CPU step at most 6. -/
def Obligations.CycleBounds : Prop :=
  (∀ (i : Instr) (s t : State), exec i s = .next t →
    t.cpu.cycle = (s.cpu.cycle + t.cpu.spent) % s.params.clock ∧
    (s.params.DefaultCycles → t.cpu.spent ≤ 6 ∧ (t.cpu.spent = 0 ↔ i = .halt))) ∧
  (∀ s t : State, cpuStep s = .next t →
    t.cpu.cycle = (s.cpu.cycle + t.cpu.spent) % s.params.clock ∧
    (s.params.DefaultCycles → t.cpu.spent ≤ 6))

/-- Derived (R65, R197, R205, R226): the devices change no address but DIV, TIMA, IF, LY and STAT, and
no CPU, cartridge, VRAM, OAM, joypad or serial state. -/
def Obligations.DevicesWriteTheirRegistersOnly : Prop :=
  ∀ (s : State) (c : Nat), s.params.Valid →
    let t := ppuUpdate c (timerUpdate c s)
    (∀ x, x ∉ [s.io.div, s.io.tima, s.io.iflag, s.io.stat, s.io.ly] →
      busRead x t = busRead x s) ∧
    t.cpu = s.cpu ∧ t.cart = s.cart ∧ t.vram = s.vram ∧ t.oam = s.oam ∧ t.held = s.held ∧
    t.serialOut = s.serialOut ∧ t.overlayActive = s.overlayActive ∧ t.launch = s.launch

/-! ## The bus -/

/-- Derived (R53, with the overlay of R240; the boot program is a launch argument, log 6): the decoder on
reads, range by range (the joypad byte is SerialHookAndJoypadRead's); with no cartridge a write to its
windows changes nothing. -/
def Obligations.BusReadDecoder : Prop :=
  ∀ (s : State) (a : Word),
    (a.toNat ≤ 0x7FFF →
      (s.cart = none → busRead a s = 0x00#8) ∧
      (∀ c, s.cart = some c → s.overlayActive = false ∨ s.launch.boot = none →
        busRead a s = c.readRom a) ∧
      (∀ c boot, s.cart = some c → s.overlayActive = true → s.launch.boot = some boot →
        (∀ h : a.toNat < 256, busRead a s = boot[a.toNat]) ∧
        (256 ≤ a.toNat → busRead a s = c.readRom a))) ∧
    (0x8000 ≤ a.toNat → a.toNat ≤ 0x9FFF → busRead a s = Store.read s.vram (a.toNat - 0x8000)) ∧
    (0xA000 ≤ a.toNat → a.toNat ≤ 0xBFFF →
      (s.cart = none → busRead a s = 0x00#8) ∧
      (∀ c, s.cart = some c → busRead a s = c.readRam a)) ∧
    (0xFE00 ≤ a.toNat → a.toNat ≤ 0xFE9F → busRead a s = Store.read s.oam (a.toNat - 0xFE00)) ∧
    ((0xC000 ≤ a.toNat ∧ a.toNat ≤ 0xFDFF ∨ 0xFEA0 ≤ a.toNat) →
      busRead a s =
        if a = s.io.joyp then joypadByte (Store.read s.mem a.toNat) s.held
        else Store.read s.mem a.toNat) ∧
    ((a.toNat ≤ 0x7FFF ∨ 0xA000 ≤ a.toNat ∧ a.toNat ≤ 0xBFFF) → s.cart = none →
      ∀ v, busWrite a v s = s)

/-- Derived (R54, R55, R234, R238, R239): a byte written to VRAM, OAM, the internal array (but JOYP)
or present, enabled cartridge RAM is the byte read there; absent or disabled cartridge RAM reads the
sentinel, and a write to it changes nothing. -/
def Obligations.WriteThenRead : Prop :=
  ∀ (s : State) (a : Word) (v : Byte),
    (0x8000 ≤ a.toNat → a.toNat ≤ 0x9FFF → busRead a (busWrite a v s) = v) ∧
    (0xC000 ≤ a.toNat → a ≠ s.io.joyp → busRead a (busWrite a v s) = v) ∧
    (0xA000 ≤ a.toNat → a.toNat ≤ 0xBFFF → ∀ c, s.cart = some c → c.ramSize ≠ 0 →
      (c.kind = .none ∨ c.ramEn = true) → busRead a (busWrite a v s) = v) ∧
    (0xA000 ≤ a.toNat → a.toNat ≤ 0xBFFF → ∀ c, s.cart = some c →
      (c.ramSize = 0 ∨ c.kind = .mbc1 ∧ c.ramEn = false) →
      busRead a s = 0xFF#8 ∧ busWrite a v s = s)

/-- Derived (R54, R57, R58, R235, R239): a bus write changes what no other address reads as, but for
those `storeReaches` names. -/
def Obligations.WriteFrame : Prop :=
  ∀ (s : State) (a : Word) (v : Byte) (x : Word),
    ¬ storeReaches a s x → busRead x (busWrite a v s) = busRead x s

/-- Derived (R58; every page is a source by the spec's decision D38): the DMA trigger copies 160 bytes
of the source page into OAM at once, whatever the page, and changes nothing else but the trigger
register. -/
def Obligations.OamDmaCopies : Prop :=
  ∀ (s : State) (v : Byte), s.params.Valid →
    let stored : State := { s with mem := Store.write s.mem s.io.dma.toNat v }
    let t := busWrite s.io.dma v s
    (∀ i, i < 160 → Store.read t.oam i = busRead (BitVec.ofNat 16 (256 * v.toNat + i)) stored) ∧
    (∀ i, 160 ≤ i → Store.read t.oam i = Store.read s.oam i) ∧
    t = { stored with oam := t.oam }

/-- Derived (R59, R60; the spec's decisions D16, D17): storing the start pattern to SC appends SB to
the serial output, any other value only stores; the joypad register as read, bit by bit. -/
def Obligations.SerialHookAndJoypadRead : Prop :=
  (∀ (s : State) (v : Byte), s.params.Valid →
    let t := busWrite s.io.sc v s
    (v = s.params.serialStart → t.serialOut = s.serialOut ++ [busRead s.io.sb s]) ∧
    (v ≠ s.params.serialStart → t.serialOut = s.serialOut) ∧
    busRead s.io.sc t = v ∧ (∀ x, x ≠ s.io.sc → busRead x t = busRead x s) ∧
    t = { s with mem := t.mem, serialOut := t.serialOut }) ∧
  (∀ s : State, s.params.Valid →
    let stored := Store.read s.mem s.io.joyp.toNat
    let got := busRead s.io.joyp s
    bitOf got 7 = true ∧ bitOf got 6 = true ∧
    bitOf got 5 = bitOf stored 5 ∧ bitOf got 4 = bitOf stored 4 ∧
    (∀ k, k < 4 → (bitOf got k = false ↔
      ∃ btn : Button, btn.bit = k ∧ s.held.has btn = true ∧
        bitOf stored (if btn.directional then 4 else 5) = false)) ∧
    ∀ v, Store.read (busWrite s.io.joyp v s).mem s.io.joyp.toNat = v)

/-! ## The cartridge -/

/-- Derived (R235, and R237, which the spec infers from it): the four registers of the rotating-bank
controller; the bank register, and so the merged bank number modulo 32, is never 0. -/
def Obligations.MapperRegisterWrites : Prop :=
  ∀ (c : Cart) (a : Word) (v : Byte), c.kind = .mbc1 → a.toNat ≤ 0x7FFF →
    let t := c.writeRom a v
    (a.toNat ≤ 0x1FFF → t = { c with ramEn := decide (v.toNat % 16 = 10) }) ∧
    (0x2000 ≤ a.toNat → a.toNat ≤ 0x3FFF →
      t = { c with bank1 := BitVec.ofNat 5 (if v.toNat % 32 = 0 then 1 else v.toNat % 32) }) ∧
    (0x4000 ≤ a.toNat → a.toNat ≤ 0x5FFF → t = { c with bank2 := BitVec.ofNat 2 v.toNat }) ∧
    (0x6000 ≤ a.toNat → t = { c with mode := bitOf v 0 }) ∧
    (c.bank1 ≠ 0#5 → t.bank1 ≠ 0#5 ∧ (t.bank2.toNat * 32 + t.bank1.toNat) % 32 ≠ 0)

/-- R234, R236, R238, R239: ROM and RAM accesses of both mapper kinds, on naturals. -/
def Obligations.MapperAccesses : Prop :=
  ∀ (c : Cart) (a : Word) (v : Byte),
    (a.toNat ≤ 0x7FFF →
      (c.kind = .none → c.readRom a = Store.read c.rom a.toNat ∧ c.writeRom a v = c) ∧
      (c.kind = .mbc1 →
        let bank :=
          if a.toNat < 0x4000 then (if c.mode = true then 32 * c.bank2.toNat else 0)
          else 32 * c.bank2.toNat + c.bank1.toNat
        c.readRom a = Store.read c.rom (16384 * (bank % c.romBanks) + a.toNat % 16384))) ∧
    (0xA000 ≤ a.toNat → a.toNat ≤ 0xBFFF →
      let rb := if c.kind = .mbc1 ∧ c.mode = true then c.bank2.toNat else 0
      let i := (8192 * rb + (a.toNat - 0xA000)) % c.ramSize
      ((c.ramSize = 0 ∨ c.kind = .mbc1 ∧ c.ramEn = false) →
        c.readRam a = 0xFF#8 ∧ c.writeRam a v = c) ∧
      (c.ramSize ≠ 0 → (c.kind = .none ∨ c.ramEn = true) →
        c.readRam a = Store.read c.ram i ∧
        Store.read (c.writeRam a v).ram i = v ∧
        (∀ j, j ≠ i → Store.read (c.writeRam a v).ram j = Store.read c.ram j) ∧
        c.writeRam a v = { c with ram := (c.writeRam a v).ram }))

/-- R229, R231, R232, R233: `LoadROM` fails exactly on an image whose length is 0 or no multiple of
16,384 or whose codes are in no table, and then changes nothing; else it replaces the cartridge and
nothing else but the overlay flag. The header checksum is minus the sum of the 25 header bytes, minus
25, modulo 256. -/
def Obligations.LoadRomReplacesOrFails : Prop :=
  ∀ (image : List Byte) (s : State),
    let r := loadRom image s
    let supported := image.length ≠ 0 ∧ image.length % 16384 = 0 ∧
      image.getD 0x147 0#8 ∈ [0x00#8, 0x01#8, 0x02#8, 0x03#8, 0x08#8, 0x09#8] ∧
      (image.getD 0x148 0#8).toNat ≤ 8 ∧ (image.getD 0x149 0#8).toNat ≤ 5
    (r.1 = true ↔ supported) ∧
    (r.1 = false → r.2 = s) ∧
    (r.1 = true → ∃ c, r.2 = { s with cart := some c, overlayActive := s.launch.bootOverlay } ∧
      (c.kind = .mbc1 ↔ image.getD 0x147 0#8 ∈ [0x01#8, 0x02#8, 0x03#8]) ∧
      c.romBanks = 2 * 2 ^ (image.getD 0x148 0#8).toNat ∧
      c.ramSize = [0, 2048, 8192, 32768, 131072, 65536].getD (image.getD 0x149 0#8).toNat 0 ∧
      (∀ j, Store.read c.rom j = if j < 16384 * c.romBanks then image.getD j 0#8 else 0#8) ∧
      c.ram = [] ∧ c.bank1 = 1#5 ∧ c.bank2 = 0#2 ∧ c.ramEn = false ∧ c.mode = false ∧
      c.header = parseHeader image ∧
      (c.header.checksumOk = true ↔
        BitVec.ofInt 8
          (-25 - (((List.range 25).map (fun k => (image.getD (0x134 + k) 0#8).toNat)).sum : Int))
          = image.getD 0x14D 0#8))

/-! ## The timer -/

/-- R198: the divider, in closed form (`DIV_PERIOD` is 256 by default). -/
def Obligations.DividerCounts : Prop :=
  Params.default.divPeriod = 256 ∧
  ∀ (ticks : Nat) (s : State), s.params.Valid →
    let acc := s.timer.divAcc + ticks
    let t := divUpdate ticks s
    busRead s.io.div t = busRead s.io.div s + BitVec.ofNat 8 (acc / s.params.divPeriod) ∧
    t.timer = { s.timer with divAcc := acc % s.params.divPeriod } ∧
    (∀ x, x ≠ s.io.div → busRead x t = busRead x s) ∧
    t = { s with timer := t.timer, mem := t.mem }

/-- R199, R200, R202: the counter and its default periods; disabled it does nothing, enabled it increments once per period,
reloads from TMA on overflow and requests interrupt 2 in the same update. -/
def Obligations.CounterCounts : Prop :=
  (let d := Params.default.timaPeriods
   [d.code0, d.code1, d.code2, d.code3] = [1024, 16, 64, 256]) ∧
  ∀ (ticks : Nat) (s : State), s.params.Valid →
    let tac := busRead s.io.tac s
    let p := s.params.timaPeriods
    let t := timaUpdate ticks s
    (bitOf tac 2 = false → t = s) ∧
    (bitOf tac 2 = true →
      let period := [p.code0, p.code1, p.code2, p.code3].getD (tac.toNat % 4) 0
      let acc := s.timer.timaAcc + ticks
      let after := timaAfter (busRead s.io.tma s) (acc / period) (busRead s.io.tima s)
      busRead s.io.tima t = after.1 ∧
      t.timer = { s.timer with timaAcc := acc % period } ∧
      busRead s.io.iflag t =
        (if after.2 = true then busRead s.io.iflag s ||| 0x04#8 else busRead s.io.iflag s) ∧
      (∀ x, x ≠ s.io.tima → x ≠ s.io.iflag → busRead x t = busRead x s) ∧
      t = { s with timer := t.timer, mem := t.mem })

/-- Derived (R203, the spec's own inference from R198 and R199): after every step, from any state, the
accumulators are below their periods. -/
def Obligations.TimerInvariantAfterEveryStep : Prop :=
  ∀ s t : State, s.params.Valid → step s = .next t → TimerInv t

/-! ## The PPU -/

/-- Derived (R209): every mode change rewrites STAT's low three bits and requests the STAT and V-blank
interrupts. -/
def Obligations.ModeChangeSetsStat : Prop :=
  ∀ (m : PpuMode) (s : State), s.params.Valid →
    let t := setMode m s
    let st := busRead s.io.stat t
    let co := busRead s.io.ly s = busRead s.io.lyc s
    let request := bitOf st 3 = true ∧ m = .hblank ∨ bitOf st 4 = true ∧ m = .vblank ∨
      bitOf st 5 = true ∧ m = .scan ∨ bitOf st 6 = true ∧ co
    t.ppu = { s.ppu with mode := m } ∧
    (∀ j, 3 ≤ j → j < 8 → bitOf st j = bitOf (busRead s.io.stat s) j) ∧
    (bitOf st 2 = true ↔ co) ∧
    st.toNat % 4 = (match m with | .hblank => 0 | .vblank => 1 | .scan => 2 | .transfer => 3) ∧
    (bitOf (busRead s.io.iflag t) 0 = true ↔
      bitOf (busRead s.io.iflag s) 0 = true ∨ m = .vblank) ∧
    (bitOf (busRead s.io.iflag t) 1 = true ↔ bitOf (busRead s.io.iflag s) 1 = true ∨ request) ∧
    (∀ j, 2 ≤ j → j < 8 → bitOf (busRead s.io.iflag t) j = bitOf (busRead s.io.iflag s) j) ∧
    (∀ x, x ≠ s.io.stat → x ≠ s.io.iflag → busRead x t = busRead x s) ∧
    t = { s with ppu := t.ppu, mem := t.mem }

/-- Derived (R211, R212): the end of a scanline: LY advances, V-blank is entered at 144, the frame
wraps at 154, the window line counter advances once the window is engaged. -/
def Obligations.LineEnds : Prop :=
  ∀ s : State, s.params.Valid →
    let ly := busRead s.io.ly s
    let e := endLine s
    let v := vblankLine s
    e.ppu.dot = 0 ∧ busRead s.io.ly e = ly + 1#8 ∧
    (ly = 143#8 → e.ppu.mode = .vblank ∧ e.ppu.windowLine = 0#8 ∧ e.ppu.wyReached = false ∧
      e.ppu.windowEngaged = false ∧ bitOf (busRead s.io.iflag e) 0 = true) ∧
    (ly ≠ 143#8 → e.ppu.mode = .scan ∧ e.ppu.windowEngaged = s.ppu.windowEngaged ∧
      e.ppu.wyReached = s.ppu.wyReached ∧
      e.ppu.windowLine = (if s.ppu.windowEngaged = true then s.ppu.windowLine + 1#8
        else s.ppu.windowLine)) ∧
    v.ppu.dot = 0 ∧
    (ly = 153#8 → busRead s.io.ly v = 0#8 ∧ v.ppu.mode = .scan ∧ v.ppu.frameDone = true) ∧
    (ly ≠ 153#8 → busRead s.io.ly v = ly + 1#8 ∧ v.ppu.mode = s.ppu.mode ∧
      v.ppu.frameDone = s.ppu.frameDone ∧ busRead s.io.stat v = busRead s.io.stat s ∧
      busRead s.io.iflag v = busRead s.io.iflag s)

/-- Derived (R206, R212): a V-blank line lasts 456 ticks, after which LY has advanced, or the frame
has wrapped to scanline 0 in mode 2 with `frame_done` set. -/
def Obligations.VblankLineLasts456Ticks : Prop :=
  ∀ s : State, s.params.Valid → s.ppu.mode = .vblank → s.ppu.dot = 0 →
    let ly := busRead s.io.ly s
    (∀ n, n < 456 → (times n ppuTick s).ppu = { s.ppu with dot := n } ∧
      (times n ppuTick s).mem = s.mem) ∧
    (ly ≠ 153#8 → (times 456 ppuTick s).ppu = s.ppu ∧
      busRead s.io.ly (times 456 ppuTick s) = ly + 1#8) ∧
    (ly = 153#8 → (times 456 ppuTick s).ppu = { s.ppu with mode := .scan, frameDone := true } ∧
      busRead s.io.ly (times 456 ppuTick s) = 0#8)

/-- Derived (R213): the OAM scan latches the window condition and selects the first ten sprites in OAM
order that overlap the scanline, on naturals. -/
def Obligations.OamScanSelects : Prop :=
  ∀ s : State,
    let y := fun i => Store.read s.oam (4 * i)
    let x := fun i => Store.read s.oam (4 * i + 1)
    let ly := (busRead s.io.ly s).toNat
    let h := if bitOf (busRead s.io.lcdc s) 2 = true then 16 else 8
    let due := (List.range 40).filter (fun i => decide
      (0 < (x i).toNat ∧ (y i).toNat ≤ ly + 16 ∧ ly + 16 < (y i).toNat + h))
    let t := oamScan s
    t.ppu.sprites = (due.take 10).map (fun i =>
      { y := y i, x := x i, tile := Store.read s.oam (4 * i + 2),
        attr := Store.read s.oam (4 * i + 3), fetched := false }) ∧
    (t.ppu.wyReached = true ↔
      s.ppu.wyReached = true ∨ busRead s.io.wy s = busRead s.io.ly s) ∧
    t = { s with ppu := { s.ppu with sprites := t.ppu.sprites, wyReached := t.ppu.wyReached } }

/-- R221: the tile row address, on integers; it and the next one lie inside VRAM. -/
def Obligations.TileRowAddressInVram : Prop :=
  ∀ (id line : Byte), line.toNat < 8 →
    (tileRowAddr true id line).toNat = 0x8000 + 16 * id.toNat + 2 * line.toNat ∧
    ((tileRowAddr false id line).toNat : Int) = 0x9000 + 16 * id.toInt + 2 * line.toNat ∧
    ∀ mode, 0x8000 ≤ (tileRowAddr mode id line).toNat ∧ (tileRowAddr mode id line).toNat + 1 ≤ 0x9FFF

/-- Derived (R215, R223, R225): a tick of mode 3 writes at most one pixel; if the output column moves,
it moves by one and the pixel of that column (on a row below 144) is the one that was at the head of
the queue after the fetcher's step; every other pixel of the frame buffer keeps its value. -/
def Obligations.ModeThreeTickPopsOnePixel : Prop :=
  ∀ s : State, s.ppu.lx < 160 →
    let t := mode3Tick s
    let ly := (busRead s.io.ly s).toNat
    (t.ppu.lx = s.ppu.lx ∧ t.ppu.fb = s.ppu.fb) ∨
    (t.ppu.lx = s.ppu.lx + 1 ∧ 8 ≤ t.ppu.fifo.length ∧
      ∃ px, (fetcherTick (windowEntry s)).ppu.fifo = px :: t.ppu.fifo ∧
        (∀ k, Store.read t.ppu.fb k =
          if ly < 144 ∧ k = 160 * ly + s.ppu.lx then px.color else Store.read s.ppu.fb k))

/-- Derived (R219): merging a sprite keeps the queue's length, every pixel an earlier sprite owns and
every pixel outside the sprite's eight columns; a pixel it changes is owned by a sprite. -/
def Obligations.SpriteMergeFrame : Prop :=
  ∀ (sp : Sprite) (hi lo pal : Byte) (lx : Nat) (fifo : List Pixel),
    let out := mergeSprite sp hi lo pal lx fifo
    out.length = fifo.length ∧
    (∀ (j : Nat) (old : Pixel), fifo[j]? = some old →
      (old.obj = true → out[j]? = some old) ∧
      (j + lx + 8 < sp.x.toNat ∨ sp.x.toNat ≤ j + lx → out[j]? = some old) ∧
      (bitOf sp.attr 7 = true → old.color ≠ 0#2 → out[j]? = some old) ∧
      (out[j]? ≠ some old → ∃ color, out[j]? = some { color := color, obj := true }))

/-! ## The host -/

/-- R262: a press of a button not yet held records it and, where its group is selected, requests
interrupt 4; a press of a held button does nothing; a release only forgets the button. -/
def Obligations.ButtonPressAndRelease : Prop :=
  ∀ (btn : Button) (s : State),
    let sel := bitOf (Store.read s.mem s.io.joyp.toNat) (if btn.directional then 4 else 5)
    (s.held.has btn = true → pressButton btn s = s) ∧
    (s.held.has btn = false →
      let held : State := { s with held := s.held.set btn true }
      pressButton btn s = if sel = false then setInterruptFlag 4 true held else held) ∧
    (∀ other, (pressButton btn s).held.has other = (decide (other = btn) || s.held.has other)) ∧
    (∀ other, (releaseButton btn s).held.has other =
      (!decide (other = btn) && s.held.has other)) ∧
    releaseButton btn s = { s with held := (releaseButton btn s).held }

/-- Derived (R266, R268; the spec's decision D36; the register pattern is a launch argument, log 3):
`Reset()` without boot overlay, from any state: the register pattern, the initial memory of the launch
arguments, the devices at rest, the cartridge kept but for its mapper registers. -/
def Obligations.ResetProcedure : Prop :=
  ∀ s : State, s.launch.bootOverlay = false →
    let t := hostReset s
    let r := s.params.resetRegs
    t.cpu.a = r.a ∧ t.cpu.f = r.f &&& 0xF0#8 ∧ t.cpu.b = r.b ∧ t.cpu.c = r.c ∧ t.cpu.d = r.d ∧
    t.cpu.e = r.e ∧ t.cpu.h = r.h ∧ t.cpu.l = r.l ∧ t.cpu.sp = r.sp ∧
    t.cpu.pc = r.pc ∧ t.cpu.ime = false ∧ t.cpu.halted = false ∧ t.cpu.cycle = 0 ∧
    t.mem = s.launch.initMem ∧ t.vram = s.launch.initVram ∧ t.oam = s.launch.initOam ∧
    t.ppu.fb = [] ∧ t.timer.divAcc = 0 ∧ t.timer.timaAcc = 0 ∧ t.ppu.mode = .scan ∧ t.ppu.dot = 0 ∧
    t.ppu.sprites = [] ∧ t.ppu.fifo = [] ∧ t.ppu.lx = 0 ∧ t.ppu.discard = 0 ∧
    t.ppu.windowActive = false ∧ t.ppu.wyReached = false ∧ t.ppu.windowEngaged = false ∧
    t.ppu.windowLine = 0#8 ∧ t.ppu.frameDone = false ∧ t.ppu.fetchX = 0 ∧ t.ppu.winFetchX = 0 ∧
    t.ppu.fetcher = Fetcher.reset ∧ (∀ btn, t.held.has btn = false) ∧ t.serialOut = [] ∧
    t.overlayActive = false ∧ t.launch = s.launch ∧ (s.cart = none → t.cart = none) ∧
    (∀ c, s.cart = some c →
      t.cart = some { c with bank1 := 1#5, bank2 := 0#2, ramEn := false, mode := false }) ∧
    hostReset State.reset = State.reset

/-! ## Invariants -/

/-- Derived (R29, R30, R54, R244): every step keeps every memory of the machine in canonical form and
inside its declared range. -/
def Obligations.StepKeepsMemoryCanonical : Prop :=
  ∀ s t : State, MemoryInv s → step s = .next t → MemoryInv t

/-- Derived (R18, R27, R235, R240): every step keeps the low nibble of `F` zero; the cycle counter stays
below its modulus, the ROM bank register nonzero, and the overlay is active only with a boot program. -/
def Obligations.StepKeepsCpuAndMapper : Prop :=
  ∀ s t : State, CpuInv s → MapperInv s → step s = .next t → CpuInv t ∧ MapperInv t

/-- Derived (R206, R213, R214, R217, R222, R224): every step keeps the PPU's invariant. -/
def Obligations.StepKeepsPpuInvariant : Prop :=
  ∀ s t : State, PpuInv s → step s = .next t → PpuInv t

/-- Derived (R8, R266; `State.reset` has the default launch arguments, logs 2 to 7): the invariants hold
at reset, its registers are those of the default pattern, and its parameters are legal and have the
defaults of R8. -/
def Obligations.InvariantsAtReset : Prop :=
  MemoryInv State.reset ∧ CpuInv State.reset ∧ MapperInv State.reset ∧ TimerInv State.reset ∧
  PpuInv State.reset ∧
  (let c := State.reset.cpu
   [c.a, c.f, c.b, c.c, c.d, c.e, c.h, c.l] = [0x01, 0xB0, 0x00, 0x13, 0x00, 0xD8, 0x01, 0x4D] ∧
   c.sp = 0xFFFE#16 ∧ c.pc = 0x0100#16) ∧
  let p := State.reset.params
  p.Valid ∧ p.DefaultCycles ∧ p.clock = 4194304 ∧ p.ticksPerCycle = 4 ∧ p.invalidCycles = 1 ∧
  p.intCycles = 5 ∧ p.haltIdleCycles = 1 ∧ p.divPeriod = 256 ∧ p.serialStart = 0x81#8 ∧
  (List.range 4).map (fun k => p.timaPeriods.of (BitVec.ofNat 2 k)) = [1024, 16, 64, 256] ∧
  (∀ i, i < 5 → p.vectors.of i = BitVec.ofNat 16 (0x0040 + 8 * i)) ∧
  p.io.joyp = 0xFF00#16 ∧ p.io.sb = 0xFF01#16 ∧ p.io.sc = 0xFF02#16 ∧ p.io.div = 0xFF04#16 ∧
  p.io.tima = 0xFF05#16 ∧ p.io.tma = 0xFF06#16 ∧ p.io.tac = 0xFF07#16 ∧ p.io.iflag = 0xFF0F#16 ∧
  p.io.lcdc = 0xFF40#16 ∧ p.io.stat = 0xFF41#16 ∧ p.io.scy = 0xFF42#16 ∧ p.io.scx = 0xFF43#16 ∧
  p.io.ly = 0xFF44#16 ∧ p.io.lyc = 0xFF45#16 ∧ p.io.dma = 0xFF46#16 ∧ p.io.bgp = 0xFF47#16 ∧
  p.io.obp0 = 0xFF48#16 ∧ p.io.obp1 = 0xFF49#16 ∧ p.io.wy = 0xFF4A#16 ∧ p.io.wx = 0xFF4B#16 ∧
  p.io.ienable = 0xFFFF#16
end

