-- ==== Sys2Proof/Laws/Memory.lean ====
section
/-! SUPPORT. The laws of a sparse store: read after write, and that every operation keeps the canonical
form and the range. -/

namespace Sys2Proof

variable {w : Nat}

theorem Store.read_erase (m : Store w) (a b : Nat) :
    Store.read (Store.erase m a) b = if b = a then 0#w else Store.read m b := by
  induction m with
  | nil => simp [Store.erase, Store.read]
  | cons x m ih =>
    obtain ⟨k, v⟩ := x
    simp only [Store.erase] at ih
    by_cases hk : k = a
    · subst hk
      simp only [Store.erase, List.filter_cons, bne_self_eq_false, Bool.false_eq_true, if_false,
        Store.read, ih]
      by_cases hb : b = k
      · simp [hb]
      · simp [hb, Ne.symm hb]
    · simp only [Store.erase, List.filter_cons, bne_iff_ne, ne_eq, hk, not_false_eq_true, if_true,
        Store.read, ih]
      by_cases hb : b = a
      · subst hb; simp [hk]
      · simp [hb]

theorem Store.erase_absent (m : Store w) (a : Nat) : ∀ x ∈ Store.erase m a, x.1 ≠ a := by
  simp [Store.erase]

theorem Store.read_insert (m : Store w) (a : Nat) (v : BitVec w) (h : ∀ x ∈ m, x.1 ≠ a) (b : Nat) :
    Store.read (Store.insert a v m) b = if b = a then v else Store.read m b := by
  induction m with
  | nil =>
    by_cases hb : b = a
    · simp [Store.insert, Store.read, hb]
    · simp [Store.insert, Store.read, hb, Ne.symm hb]
  | cons x m ih =>
    obtain ⟨k, y⟩ := x
    have hk : k ≠ a := h (k, y) (by simp)
    have ih := ih (fun x hx => h x (by simp [hx]))
    simp only [Store.insert]
    split
    · by_cases hb : b = a
      · simp [Store.read, hb]
      · simp [Store.read, hb, Ne.symm hb]
    · simp only [Store.read, ih]
      by_cases hb : b = a
      · subst hb; simp [hk]
      · simp [hb]

/-- A read after a write: the value written at its key, the old value elsewhere. -/
theorem Store.read_write (m : Store w) (a : Nat) (v : BitVec w) (b : Nat) :
    Store.read (Store.write m a v) b = if b = a then v else Store.read m b := by
  unfold Store.write
  split
  · subst v; exact Store.read_erase m a b
  · rw [Store.read_insert _ _ _ (Store.erase_absent m a), Store.read_erase]
    split <;> rfl

@[simp] theorem Store.read_write_self (m : Store w) (a : Nat) (v : BitVec w) :
    Store.read (Store.write m a v) a = v := by simp [Store.read_write]

theorem Store.read_write_ne (m : Store w) {a b : Nat} (v : BitVec w) (h : b ≠ a) :
    Store.read (Store.write m a v) b = Store.read m b := by simp [Store.read_write, h]

theorem Store.erase_wf {m : Store w} (h : Store.wf m) (a : Nat) : Store.wf (Store.erase m a) :=
  ⟨h.1.filter _, fun x hx => h.2 x (List.mem_of_mem_filter hx)⟩

theorem Store.mem_insert {m : Store w} {a : Nat} {v : BitVec w} {x : Nat × BitVec w}
    (h : x ∈ Store.insert a v m) : x = (a, v) ∨ x ∈ m := by
  induction m with
  | nil => simpa [Store.insert] using h
  | cons y m ih =>
    simp only [Store.insert] at h
    split at h
    · simpa using h
    · rcases List.mem_cons.1 h with h | h
      · simp [h]
      · rcases ih h with h | h <;> simp [h]

theorem Store.insert_pairwise {m : Store w} (h : m.Pairwise (fun x y => x.1 < y.1)) {a : Nat}
    (v : BitVec w) (ha : ∀ x ∈ m, x.1 ≠ a) :
    (Store.insert a v m).Pairwise (fun x y => x.1 < y.1) := by
  induction m with
  | nil => simp [Store.insert]
  | cons y m ih =>
    obtain ⟨k, z⟩ := y
    have hm := List.pairwise_cons.1 h
    simp only [Store.insert]
    split
    · rename_i hlt
      refine List.pairwise_cons.2 ⟨fun x hx => ?_, h⟩
      rcases List.mem_cons.1 hx with hx | hx
      · subst hx; exact hlt
      · exact Nat.lt_trans hlt (hm.1 x hx)
    · rename_i hlt
      refine List.pairwise_cons.2 ⟨fun x hx => ?_, ih hm.2 (fun x hx => ha x (by simp [hx]))⟩
      rcases Store.mem_insert hx with hx | hx
      · subst hx
        have := ha (k, z) (by simp)
        simp only at this ⊢
        omega
      · exact hm.1 x hx

/-- A write keeps the canonical form. -/
theorem Store.write_wf {m : Store w} (h : Store.wf m) (a : Nat) (v : BitVec w) :
    Store.wf (Store.write m a v) := by
  unfold Store.write
  split
  · exact Store.erase_wf h a
  · rename_i hv
    refine ⟨Store.insert_pairwise (Store.erase_wf h a).1 v (Store.erase_absent m a), fun x hx => ?_⟩
    rcases Store.mem_insert hx with hx | hx
    · subst hx; exact hv
    · exact (Store.erase_wf h a).2 x hx

/-- Whatever holds of every key and of the key written holds after a write. -/
theorem Store.write_forall {m : Store w} {P : Nat → Prop} (h : ∀ x ∈ m, P x.1) {a : Nat} (ha : P a)
    (v : BitVec w) : ∀ x ∈ Store.write m a v, P x.1 := by
  intro x hx
  unfold Store.write at hx
  split at hx
  · exact h x (List.mem_of_mem_filter hx)
  · rcases Store.mem_insert hx with hx | hx
    · subst hx; exact ha
    · exact h x (List.mem_of_mem_filter hx)

/-- A write inside the range keeps the range. -/
theorem Store.write_below {m : Store w} {n : Nat} (h : Store.below n m) {a : Nat} (ha : a < n)
    (v : BitVec w) : Store.below n (Store.write m a v) :=
  Store.write_forall (P := fun k => k < n) h ha v

theorem Store.nil_wf : Store.wf ([] : Store w) := ⟨List.Pairwise.nil, by simp⟩

theorem Store.nil_below (n : Nat) : Store.below n ([] : Store w) := by simp [Store.below]

theorem Store.mem_ofBytes {l : List Byte} {s : Nat} {x : Host.Cell} (h : x ∈ Store.ofBytes s l) :
    s ≤ x.1 ∧ x.1 < s + l.length ∧ x.2 ≠ 0#8 := by
  induction l generalizing s with
  | nil => simp [Store.ofBytes] at h
  | cons b l ih =>
    simp only [Store.ofBytes] at h
    split at h
    · have := ih h
      simp only [List.length_cons]
      exact ⟨by omega, by omega, this.2.2⟩
    · rcases List.mem_cons.1 h with h | h
      · subst h
        simp only [List.length_cons]
        exact ⟨by omega, by omega, by assumption⟩
      · have := ih h
        simp only [List.length_cons]
        exact ⟨by omega, by omega, this.2.2⟩

/-- A byte sequence laid out as a store is in canonical form. -/
theorem Store.ofBytes_wf (s : Nat) (l : List Byte) : Memory.wf (Store.ofBytes s l) := by
  refine ⟨?_, fun x hx => (Store.mem_ofBytes hx).2.2⟩
  induction l generalizing s with
  | nil => simp [Store.ofBytes]
  | cons b l ih =>
    simp only [Store.ofBytes]
    split
    · exact ih (s + 1)
    · refine List.pairwise_cons.2 ⟨fun x hx => ?_, ih (s + 1)⟩
      have := Store.mem_ofBytes hx
      simp only
      omega

theorem Store.ofBytes_below (l : List Byte) : Store.below l.length (Store.ofBytes 0 l) := by
  intro x hx
  have := Store.mem_ofBytes hx
  omega

/-- Reading a byte sequence laid out as a store. -/
theorem Store.read_ofBytes (s : Nat) (l : List Byte) (a : Nat) :
    Store.read (Store.ofBytes s l) a = if s ≤ a then l.getD (a - s) 0#8 else 0#8 := by
  induction l generalizing s with
  | nil => simp [Store.ofBytes, Store.read]
  | cons b l ih =>
    simp only [Store.ofBytes]
    by_cases hs : s = a
    · subst hs
      split
      · rename_i hb
        rw [ih (s + 1)]
        simp [hb]
      · simp [Store.read]
    · have key : (if s + 1 ≤ a then l.getD (a - (s + 1)) 0#8 else 0#8)
          = if s ≤ a then (b :: l).getD (a - s) 0#8 else 0#8 := by
        by_cases h1 : s ≤ a
        · have h2 : s + 1 ≤ a := by omega
          have h3 : a - s = (a - (s + 1)) + 1 := by omega
          simp [h1, h2, h3]
        · have h2 : ¬ s + 1 ≤ a := by omega
          simp [h1, h2]
      split
      · rw [ih (s + 1), key]
      · simp only [Store.read, hs, if_false]
        rw [ih (s + 1), key]

end Sys2Proof
end

