-- ==== Sys2Proof/Laws/State.lean ====
section
/-! SUPPORT. One lemma per field per update of the state, true by `rfl`. -/

namespace Sys2Proof.Machine

/-! ## The parameters: one spelling -/

@[simp] theorem State.params_eq (s : State) : s.params = s.launch.params := rfl
@[simp] theorem State.io_eq (s : State) : s.io = s.launch.params.io := rfl

/-! ## `State.withCpu` -/

@[simp] theorem State.withCpu_cpu (s : State) (c : Cpu) : (s.withCpu c).cpu = c := rfl
@[simp] theorem State.withCpu_mem (s : State) (c : Cpu) : (s.withCpu c).mem = s.mem := rfl
@[simp] theorem State.withCpu_vram (s : State) (c : Cpu) : (s.withCpu c).vram = s.vram := rfl
@[simp] theorem State.withCpu_oam (s : State) (c : Cpu) : (s.withCpu c).oam = s.oam := rfl
@[simp] theorem State.withCpu_timer (s : State) (c : Cpu) : (s.withCpu c).timer = s.timer := rfl
@[simp] theorem State.withCpu_ppu (s : State) (c : Cpu) : (s.withCpu c).ppu = s.ppu := rfl
@[simp] theorem State.withCpu_cart (s : State) (c : Cpu) : (s.withCpu c).cart = s.cart := rfl
@[simp] theorem State.withCpu_overlayActive (s : State) (c : Cpu) :
    (s.withCpu c).overlayActive = s.overlayActive := rfl
@[simp] theorem State.withCpu_held (s : State) (c : Cpu) : (s.withCpu c).held = s.held := rfl
@[simp] theorem State.withCpu_serialOut (s : State) (c : Cpu) :
    (s.withCpu c).serialOut = s.serialOut := rfl
@[simp] theorem State.withCpu_launch (s : State) (c : Cpu) : (s.withCpu c).launch = s.launch := rfl
@[simp] theorem State.withCpu_withCpu (s : State) (c c' : Cpu) :
    (s.withCpu c).withCpu c' = s.withCpu c' := rfl
@[simp] theorem State.withCpu_self (s : State) : s.withCpu s.cpu = s := rfl
@[simp] theorem State.withCpu_cyclesOf (s : State) (c : Cpu) (i : Instr) (table : Nat) :
    (s.withCpu c).cyclesOf i table = s.cyclesOf i table := rfl
@[simp] theorem State.withCpu_cyclesNotTakenOf (s : State) (c : Cpu) (i : Instr) (table : Nat) :
    (s.withCpu c).cyclesNotTakenOf i table = s.cyclesNotTakenOf i table := rfl

/-! ## `State.withPpu` and `State.withFetcher` -/

@[simp] theorem State.withPpu_cpu (s : State) (p : Ppu) : (s.withPpu p).cpu = s.cpu := rfl
@[simp] theorem State.withPpu_mem (s : State) (p : Ppu) : (s.withPpu p).mem = s.mem := rfl
@[simp] theorem State.withPpu_vram (s : State) (p : Ppu) : (s.withPpu p).vram = s.vram := rfl
@[simp] theorem State.withPpu_oam (s : State) (p : Ppu) : (s.withPpu p).oam = s.oam := rfl
@[simp] theorem State.withPpu_timer (s : State) (p : Ppu) : (s.withPpu p).timer = s.timer := rfl
@[simp] theorem State.withPpu_ppu (s : State) (p : Ppu) : (s.withPpu p).ppu = p := rfl
@[simp] theorem State.withPpu_cart (s : State) (p : Ppu) : (s.withPpu p).cart = s.cart := rfl
@[simp] theorem State.withPpu_overlayActive (s : State) (p : Ppu) :
    (s.withPpu p).overlayActive = s.overlayActive := rfl
@[simp] theorem State.withPpu_held (s : State) (p : Ppu) : (s.withPpu p).held = s.held := rfl
@[simp] theorem State.withPpu_serialOut (s : State) (p : Ppu) :
    (s.withPpu p).serialOut = s.serialOut := rfl
@[simp] theorem State.withPpu_launch (s : State) (p : Ppu) : (s.withPpu p).launch = s.launch := rfl
@[simp] theorem State.withPpu_withPpu (s : State) (p p' : Ppu) :
    (s.withPpu p).withPpu p' = s.withPpu p' := rfl
@[simp] theorem State.withPpu_self (s : State) : s.withPpu s.ppu = s := rfl
@[simp] theorem State.withFetcher_cpu (s : State) (f : Fetcher) :
    (s.withFetcher f).cpu = s.cpu := rfl
@[simp] theorem State.withFetcher_mem (s : State) (f : Fetcher) :
    (s.withFetcher f).mem = s.mem := rfl
@[simp] theorem State.withFetcher_vram (s : State) (f : Fetcher) :
    (s.withFetcher f).vram = s.vram := rfl
@[simp] theorem State.withFetcher_oam (s : State) (f : Fetcher) :
    (s.withFetcher f).oam = s.oam := rfl
@[simp] theorem State.withFetcher_timer (s : State) (f : Fetcher) :
    (s.withFetcher f).timer = s.timer := rfl
@[simp] theorem State.withFetcher_ppu (s : State) (f : Fetcher) :
    (s.withFetcher f).ppu = { s.ppu with fetcher := f } := rfl
@[simp] theorem State.withFetcher_cart (s : State) (f : Fetcher) :
    (s.withFetcher f).cart = s.cart := rfl
@[simp] theorem State.withFetcher_overlayActive (s : State) (f : Fetcher) :
    (s.withFetcher f).overlayActive = s.overlayActive := rfl
@[simp] theorem State.withFetcher_held (s : State) (f : Fetcher) :
    (s.withFetcher f).held = s.held := rfl
@[simp] theorem State.withFetcher_serialOut (s : State) (f : Fetcher) :
    (s.withFetcher f).serialOut = s.serialOut := rfl
@[simp] theorem State.withFetcher_launch (s : State) (f : Fetcher) :
    (s.withFetcher f).launch = s.launch := rfl

/-! ## `Cpu.setReg` -/

@[simp] theorem Cpu.setReg_f (c : Cpu) (r : Reg8) (v : Byte) :
    (c.setReg r v).f = c.f := by cases r <;> rfl
@[simp] theorem Cpu.setReg_sp (c : Cpu) (r : Reg8) (v : Byte) :
    (c.setReg r v).sp = c.sp := by cases r <;> rfl
@[simp] theorem Cpu.setReg_pc (c : Cpu) (r : Reg8) (v : Byte) :
    (c.setReg r v).pc = c.pc := by cases r <;> rfl
@[simp] theorem Cpu.setReg_ime (c : Cpu) (r : Reg8) (v : Byte) :
    (c.setReg r v).ime = c.ime := by cases r <;> rfl
@[simp] theorem Cpu.setReg_halted (c : Cpu) (r : Reg8) (v : Byte) :
    (c.setReg r v).halted = c.halted := by cases r <;> rfl
@[simp] theorem Cpu.setReg_cycle (c : Cpu) (r : Reg8) (v : Byte) :
    (c.setReg r v).cycle = c.cycle := by cases r <;> rfl
@[simp] theorem Cpu.setReg_spent (c : Cpu) (r : Reg8) (v : Byte) :
    (c.setReg r v).spent = c.spent := by cases r <;> rfl
@[simp] theorem Cpu.reg_setReg_self (c : Cpu) (r : Reg8) (v : Byte) :
    (c.setReg r v).reg r = v := by cases r <;> rfl
@[simp] theorem Cpu.setReg_flagZ (c : Cpu) (r : Reg8) (v : Byte) :
    (c.setReg r v).flagZ = c.flagZ := by cases r <;> rfl
@[simp] theorem Cpu.setReg_flagN (c : Cpu) (r : Reg8) (v : Byte) :
    (c.setReg r v).flagN = c.flagN := by cases r <;> rfl
@[simp] theorem Cpu.setReg_flagH (c : Cpu) (r : Reg8) (v : Byte) :
    (c.setReg r v).flagH = c.flagH := by cases r <;> rfl
@[simp] theorem Cpu.setReg_flagC (c : Cpu) (r : Reg8) (v : Byte) :
    (c.setReg r v).flagC = c.flagC := by cases r <;> rfl

theorem Cpu.reg_setReg_ne (c : Cpu) {r q : Reg8} (v : Byte) (h : q ≠ r) :
    (c.setReg r v).reg q = c.reg q := by
  cases r <;> cases q <;> first | rfl | exact absurd rfl h

/-! ## `Cpu.setF` and `Cpu.setFlags` -/

@[simp] theorem Cpu.setF_a (c : Cpu) (v : Byte) : (c.setF v).a = c.a := rfl
@[simp] theorem Cpu.setF_f (c : Cpu) (v : Byte) : (c.setF v).f = v &&& 0xF0#8 := rfl
@[simp] theorem Cpu.setF_b (c : Cpu) (v : Byte) : (c.setF v).b = c.b := rfl
@[simp] theorem Cpu.setF_c (c : Cpu) (v : Byte) : (c.setF v).c = c.c := rfl
@[simp] theorem Cpu.setF_d (c : Cpu) (v : Byte) : (c.setF v).d = c.d := rfl
@[simp] theorem Cpu.setF_e (c : Cpu) (v : Byte) : (c.setF v).e = c.e := rfl
@[simp] theorem Cpu.setF_h (c : Cpu) (v : Byte) : (c.setF v).h = c.h := rfl
@[simp] theorem Cpu.setF_l (c : Cpu) (v : Byte) : (c.setF v).l = c.l := rfl
@[simp] theorem Cpu.setF_sp (c : Cpu) (v : Byte) : (c.setF v).sp = c.sp := rfl
@[simp] theorem Cpu.setF_pc (c : Cpu) (v : Byte) : (c.setF v).pc = c.pc := rfl
@[simp] theorem Cpu.setF_ime (c : Cpu) (v : Byte) : (c.setF v).ime = c.ime := rfl
@[simp] theorem Cpu.setF_halted (c : Cpu) (v : Byte) : (c.setF v).halted = c.halted := rfl
@[simp] theorem Cpu.setF_cycle (c : Cpu) (v : Byte) : (c.setF v).cycle = c.cycle := rfl
@[simp] theorem Cpu.setF_spent (c : Cpu) (v : Byte) : (c.setF v).spent = c.spent := rfl
@[simp] theorem Cpu.setFlags_a (c : Cpu) (z n h cy : Bool) : (c.setFlags z n h cy).a = c.a := rfl
@[simp] theorem Cpu.setFlags_b (c : Cpu) (z n h cy : Bool) : (c.setFlags z n h cy).b = c.b := rfl
@[simp] theorem Cpu.setFlags_c (c : Cpu) (z n h cy : Bool) : (c.setFlags z n h cy).c = c.c := rfl
@[simp] theorem Cpu.setFlags_d (c : Cpu) (z n h cy : Bool) : (c.setFlags z n h cy).d = c.d := rfl
@[simp] theorem Cpu.setFlags_e (c : Cpu) (z n h cy : Bool) : (c.setFlags z n h cy).e = c.e := rfl
@[simp] theorem Cpu.setFlags_h (c : Cpu) (z n h cy : Bool) : (c.setFlags z n h cy).h = c.h := rfl
@[simp] theorem Cpu.setFlags_l (c : Cpu) (z n h cy : Bool) : (c.setFlags z n h cy).l = c.l := rfl
@[simp] theorem Cpu.setFlags_sp (c : Cpu) (z n h cy : Bool) : (c.setFlags z n h cy).sp = c.sp := rfl
@[simp] theorem Cpu.setFlags_pc (c : Cpu) (z n h cy : Bool) : (c.setFlags z n h cy).pc = c.pc := rfl
@[simp] theorem Cpu.setFlags_ime (c : Cpu) (z n h cy : Bool) :
    (c.setFlags z n h cy).ime = c.ime := rfl
@[simp] theorem Cpu.setFlags_halted (c : Cpu) (z n h cy : Bool) :
    (c.setFlags z n h cy).halted = c.halted := rfl
@[simp] theorem Cpu.setFlags_cycle (c : Cpu) (z n h cy : Bool) :
    (c.setFlags z n h cy).cycle = c.cycle := rfl
@[simp] theorem Cpu.setFlags_spent (c : Cpu) (z n h cy : Bool) :
    (c.setFlags z n h cy).spent = c.spent := rfl
@[simp] theorem Cpu.setF_reg (c : Cpu) (v : Byte) (r : Reg8) :
    (c.setF v).reg r = c.reg r := by cases r <;> rfl
@[simp] theorem Cpu.setFlags_reg (c : Cpu) (z n h cy : Bool) (r : Reg8) :
    (c.setFlags z n h cy).reg r = c.reg r := by cases r <;> rfl
@[simp] theorem Cpu.setFlags_pair (c : Cpu) (z n h cy : Bool) (p : Pair) :
    (c.setFlags z n h cy).pair p = c.pair p := by cases p <;> rfl

@[simp] theorem Cpu.setFlags_flagZ (c : Cpu) (z n h cy : Bool) :
    (c.setFlags z n h cy).flagZ = z := by
  simp only [Cpu.flagZ, Cpu.setFlags, Cpu.setF]; revert z n h cy; decide
@[simp] theorem Cpu.setFlags_flagN (c : Cpu) (z n h cy : Bool) :
    (c.setFlags z n h cy).flagN = n := by
  simp only [Cpu.flagN, Cpu.setFlags, Cpu.setF]; revert z n h cy; decide
@[simp] theorem Cpu.setFlags_flagH (c : Cpu) (z n h cy : Bool) :
    (c.setFlags z n h cy).flagH = h := by
  simp only [Cpu.flagH, Cpu.setFlags, Cpu.setF]; revert z n h cy; decide
@[simp] theorem Cpu.setFlags_flagC (c : Cpu) (z n h cy : Bool) :
    (c.setFlags z n h cy).flagC = cy := by
  simp only [Cpu.flagC, Cpu.setFlags, Cpu.setF]; revert z n h cy; decide
@[simp] theorem Cpu.setFlags_low (c : Cpu) (z n h cy : Bool) :
    (c.setFlags z n h cy).f &&& 0x0F#8 = 0#8 := by
  simp only [Cpu.setFlags, Cpu.setF]; revert z n h cy; decide

/-! ## `Cpu.setPair` and `Cpu.setStackPair` -/

@[simp] theorem Cpu.setPair_a (c : Cpu) (p : Pair) (v : Word) :
    (c.setPair p v).a = c.a := by cases p <;> rfl
@[simp] theorem Cpu.setPair_f (c : Cpu) (p : Pair) (v : Word) :
    (c.setPair p v).f = c.f := by cases p <;> rfl
@[simp] theorem Cpu.setPair_pc (c : Cpu) (p : Pair) (v : Word) :
    (c.setPair p v).pc = c.pc := by cases p <;> rfl
@[simp] theorem Cpu.setPair_ime (c : Cpu) (p : Pair) (v : Word) :
    (c.setPair p v).ime = c.ime := by cases p <;> rfl
@[simp] theorem Cpu.setPair_halted (c : Cpu) (p : Pair) (v : Word) :
    (c.setPair p v).halted = c.halted := by cases p <;> rfl
@[simp] theorem Cpu.setPair_cycle (c : Cpu) (p : Pair) (v : Word) :
    (c.setPair p v).cycle = c.cycle := by cases p <;> rfl
@[simp] theorem Cpu.setPair_spent (c : Cpu) (p : Pair) (v : Word) :
    (c.setPair p v).spent = c.spent := by cases p <;> rfl
@[simp] theorem Cpu.setStackPair_sp (c : Cpu) (q : StackPair) (v : Word) :
    (c.setStackPair q v).sp = c.sp := by cases q <;> rfl
@[simp] theorem Cpu.setStackPair_pc (c : Cpu) (q : StackPair) (v : Word) :
    (c.setStackPair q v).pc = c.pc := by cases q <;> rfl
@[simp] theorem Cpu.setStackPair_ime (c : Cpu) (q : StackPair) (v : Word) :
    (c.setStackPair q v).ime = c.ime := by cases q <;> rfl
@[simp] theorem Cpu.setStackPair_halted (c : Cpu) (q : StackPair) (v : Word) :
    (c.setStackPair q v).halted = c.halted := by cases q <;> rfl
@[simp] theorem Cpu.setStackPair_cycle (c : Cpu) (q : StackPair) (v : Word) :
    (c.setStackPair q v).cycle = c.cycle := by cases q <;> rfl
@[simp] theorem Cpu.setStackPair_spent (c : Cpu) (q : StackPair) (v : Word) :
    (c.setStackPair q v).spent = c.spent := by cases q <;> rfl

/-- The value of `hi ++ lo`. -/
theorem mkWord_toNat (hi lo : Byte) : (mkWord hi lo).toNat = 256 * hi.toNat + lo.toNat := by
  have h := BitVec.toNat_append hi lo
  have hl := lo.isLt
  rw [← Nat.shiftLeft_add_eq_or_of_lt (by simpa using hl), Nat.shiftLeft_eq] at h
  simp only [mkWord]
  omega

theorem hiByte_toNat (v : Word) : (hiByte v).toNat = v.toNat / 256 := by
  have := v.isLt
  simp [hiByte, Nat.shiftRight_eq_div_pow]
  omega

theorem loByte_toNat (v : Word) : (loByte v).toNat = v.toNat % 256 := by
  simp [loByte]

/-- The two bytes of a word make the word. -/
@[simp] theorem mkWord_hiByte_loByte (v : Word) : mkWord (hiByte v) (loByte v) = v := by
  apply BitVec.eq_of_toNat_eq
  rw [mkWord_toNat, hiByte_toNat, loByte_toNat]
  omega

@[simp] theorem hiByte_mkWord (hi lo : Byte) : hiByte (mkWord hi lo) = hi := by
  apply BitVec.eq_of_toNat_eq
  have := lo.isLt
  rw [hiByte_toNat, mkWord_toNat]
  omega

@[simp] theorem loByte_mkWord (hi lo : Byte) : loByte (mkWord hi lo) = lo := by
  apply BitVec.eq_of_toNat_eq
  have := lo.isLt
  rw [loByte_toNat, mkWord_toNat]
  omega

/-- Reading a pair back (R17). -/
@[simp] theorem Cpu.pair_setPair_self (c : Cpu) (p : Pair) (v : Word) : (c.setPair p v).pair p = v := by
  cases p <;> simp [Cpu.setPair, Cpu.pair]

/-- Writing a pair keeps the registers outside it. -/
theorem Cpu.reg_setPair (c : Cpu) (p : Pair) (v : Word) (r : Reg8)
    (h : match p with
      | .bc => r ≠ .b ∧ r ≠ .c | .de => r ≠ .d ∧ r ≠ .e | .hl => r ≠ .h ∧ r ≠ .l | .sp => True) :
    (c.setPair p v).reg r = c.reg r := by
  cases p <;> cases r <;> first | rfl | simp at h

/-- Writing a pair other than `SP` keeps `SP`. -/
theorem Cpu.setPair_sp (c : Cpu) {p : Pair} (v : Word) (h : p ≠ .sp) : (c.setPair p v).sp = c.sp := by
  cases p <;> first | rfl | exact absurd rfl h

/-! ## `Cpu.retire` -/

@[simp] theorem Cpu.retire_a (c : Cpu) (k n : Nat) : (c.retire k n).a = c.a := rfl
@[simp] theorem Cpu.retire_f (c : Cpu) (k n : Nat) : (c.retire k n).f = c.f := rfl
@[simp] theorem Cpu.retire_b (c : Cpu) (k n : Nat) : (c.retire k n).b = c.b := rfl
@[simp] theorem Cpu.retire_c (c : Cpu) (k n : Nat) : (c.retire k n).c = c.c := rfl
@[simp] theorem Cpu.retire_d (c : Cpu) (k n : Nat) : (c.retire k n).d = c.d := rfl
@[simp] theorem Cpu.retire_e (c : Cpu) (k n : Nat) : (c.retire k n).e = c.e := rfl
@[simp] theorem Cpu.retire_h (c : Cpu) (k n : Nat) : (c.retire k n).h = c.h := rfl
@[simp] theorem Cpu.retire_l (c : Cpu) (k n : Nat) : (c.retire k n).l = c.l := rfl
@[simp] theorem Cpu.retire_sp (c : Cpu) (k n : Nat) : (c.retire k n).sp = c.sp := rfl
@[simp] theorem Cpu.retire_pc (c : Cpu) (k n : Nat) : (c.retire k n).pc = c.pc := rfl
@[simp] theorem Cpu.retire_ime (c : Cpu) (k n : Nat) : (c.retire k n).ime = c.ime := rfl
@[simp] theorem Cpu.retire_halted (c : Cpu) (k n : Nat) : (c.retire k n).halted = c.halted := rfl
@[simp] theorem Cpu.retire_cycle (c : Cpu) (k n : Nat) :
    (c.retire k n).cycle = (c.cycle + n) % k := rfl
@[simp] theorem Cpu.retire_spent (c : Cpu) (k n : Nat) : (c.retire k n).spent = n := rfl
@[simp] theorem Cpu.retire_reg (c : Cpu) (k n : Nat) (r : Reg8) :
    (c.retire k n).reg r = c.reg r := by cases r <;> rfl
@[simp] theorem Cpu.retire_pair (c : Cpu) (k n : Nat) (p : Pair) :
    (c.retire k n).pair p = c.pair p := by cases p <;> rfl
@[simp] theorem Cpu.retire_flagZ (c : Cpu) (k n : Nat) : (c.retire k n).flagZ = c.flagZ := rfl
@[simp] theorem Cpu.retire_flagN (c : Cpu) (k n : Nat) : (c.retire k n).flagN = c.flagN := rfl
@[simp] theorem Cpu.retire_flagH (c : Cpu) (k n : Nat) : (c.retire k n).flagH = c.flagH := rfl
@[simp] theorem Cpu.retire_flagC (c : Cpu) (k n : Nat) : (c.retire k n).flagC = c.flagC := rfl

/-! ## `Cpu.withPc`, `Cpu.withSp`, `Cpu.withIme`, `Cpu.withHalted` -/

@[simp] theorem Cpu.withPc_a (c : Cpu) (v : Word) : (c.withPc v).a = c.a := rfl
@[simp] theorem Cpu.withPc_f (c : Cpu) (v : Word) : (c.withPc v).f = c.f := rfl
@[simp] theorem Cpu.withPc_b (c : Cpu) (v : Word) : (c.withPc v).b = c.b := rfl
@[simp] theorem Cpu.withPc_c (c : Cpu) (v : Word) : (c.withPc v).c = c.c := rfl
@[simp] theorem Cpu.withPc_d (c : Cpu) (v : Word) : (c.withPc v).d = c.d := rfl
@[simp] theorem Cpu.withPc_e (c : Cpu) (v : Word) : (c.withPc v).e = c.e := rfl
@[simp] theorem Cpu.withPc_h (c : Cpu) (v : Word) : (c.withPc v).h = c.h := rfl
@[simp] theorem Cpu.withPc_l (c : Cpu) (v : Word) : (c.withPc v).l = c.l := rfl
@[simp] theorem Cpu.withPc_sp (c : Cpu) (v : Word) : (c.withPc v).sp = c.sp := rfl
@[simp] theorem Cpu.withPc_pc (c : Cpu) (v : Word) : (c.withPc v).pc = v := rfl
@[simp] theorem Cpu.withPc_ime (c : Cpu) (v : Word) : (c.withPc v).ime = c.ime := rfl
@[simp] theorem Cpu.withPc_halted (c : Cpu) (v : Word) : (c.withPc v).halted = c.halted := rfl
@[simp] theorem Cpu.withPc_cycle (c : Cpu) (v : Word) : (c.withPc v).cycle = c.cycle := rfl
@[simp] theorem Cpu.withPc_spent (c : Cpu) (v : Word) : (c.withPc v).spent = c.spent := rfl
@[simp] theorem Cpu.withPc_reg (c : Cpu) (v : Word) (r : Reg8) :
    (c.withPc v).reg r = c.reg r := by cases r <;> rfl
@[simp] theorem Cpu.withPc_flagZ (c : Cpu) (v : Word) : (c.withPc v).flagZ = c.flagZ := rfl
@[simp] theorem Cpu.withPc_flagN (c : Cpu) (v : Word) : (c.withPc v).flagN = c.flagN := rfl
@[simp] theorem Cpu.withPc_flagH (c : Cpu) (v : Word) : (c.withPc v).flagH = c.flagH := rfl
@[simp] theorem Cpu.withPc_flagC (c : Cpu) (v : Word) : (c.withPc v).flagC = c.flagC := rfl
@[simp] theorem Cpu.withPc_pair (c : Cpu) (v : Word) (p : Pair) :
    (c.withPc v).pair p = c.pair p := by cases p <;> rfl
@[simp] theorem Cpu.withSp_a (c : Cpu) (v : Word) : (c.withSp v).a = c.a := rfl
@[simp] theorem Cpu.withSp_f (c : Cpu) (v : Word) : (c.withSp v).f = c.f := rfl
@[simp] theorem Cpu.withSp_b (c : Cpu) (v : Word) : (c.withSp v).b = c.b := rfl
@[simp] theorem Cpu.withSp_c (c : Cpu) (v : Word) : (c.withSp v).c = c.c := rfl
@[simp] theorem Cpu.withSp_d (c : Cpu) (v : Word) : (c.withSp v).d = c.d := rfl
@[simp] theorem Cpu.withSp_e (c : Cpu) (v : Word) : (c.withSp v).e = c.e := rfl
@[simp] theorem Cpu.withSp_h (c : Cpu) (v : Word) : (c.withSp v).h = c.h := rfl
@[simp] theorem Cpu.withSp_l (c : Cpu) (v : Word) : (c.withSp v).l = c.l := rfl
@[simp] theorem Cpu.withSp_sp (c : Cpu) (v : Word) : (c.withSp v).sp = v := rfl
@[simp] theorem Cpu.withSp_pc (c : Cpu) (v : Word) : (c.withSp v).pc = c.pc := rfl
@[simp] theorem Cpu.withSp_ime (c : Cpu) (v : Word) : (c.withSp v).ime = c.ime := rfl
@[simp] theorem Cpu.withSp_halted (c : Cpu) (v : Word) : (c.withSp v).halted = c.halted := rfl
@[simp] theorem Cpu.withSp_cycle (c : Cpu) (v : Word) : (c.withSp v).cycle = c.cycle := rfl
@[simp] theorem Cpu.withSp_spent (c : Cpu) (v : Word) : (c.withSp v).spent = c.spent := rfl
@[simp] theorem Cpu.withSp_reg (c : Cpu) (v : Word) (r : Reg8) :
    (c.withSp v).reg r = c.reg r := by cases r <;> rfl
@[simp] theorem Cpu.withSp_flagZ (c : Cpu) (v : Word) : (c.withSp v).flagZ = c.flagZ := rfl
@[simp] theorem Cpu.withSp_flagN (c : Cpu) (v : Word) : (c.withSp v).flagN = c.flagN := rfl
@[simp] theorem Cpu.withSp_flagH (c : Cpu) (v : Word) : (c.withSp v).flagH = c.flagH := rfl
@[simp] theorem Cpu.withSp_flagC (c : Cpu) (v : Word) : (c.withSp v).flagC = c.flagC := rfl
@[simp] theorem Cpu.withIme_a (c : Cpu) (v : Bool) : (c.withIme v).a = c.a := rfl
@[simp] theorem Cpu.withIme_f (c : Cpu) (v : Bool) : (c.withIme v).f = c.f := rfl
@[simp] theorem Cpu.withIme_b (c : Cpu) (v : Bool) : (c.withIme v).b = c.b := rfl
@[simp] theorem Cpu.withIme_c (c : Cpu) (v : Bool) : (c.withIme v).c = c.c := rfl
@[simp] theorem Cpu.withIme_d (c : Cpu) (v : Bool) : (c.withIme v).d = c.d := rfl
@[simp] theorem Cpu.withIme_e (c : Cpu) (v : Bool) : (c.withIme v).e = c.e := rfl
@[simp] theorem Cpu.withIme_h (c : Cpu) (v : Bool) : (c.withIme v).h = c.h := rfl
@[simp] theorem Cpu.withIme_l (c : Cpu) (v : Bool) : (c.withIme v).l = c.l := rfl
@[simp] theorem Cpu.withIme_sp (c : Cpu) (v : Bool) : (c.withIme v).sp = c.sp := rfl
@[simp] theorem Cpu.withIme_pc (c : Cpu) (v : Bool) : (c.withIme v).pc = c.pc := rfl
@[simp] theorem Cpu.withIme_ime (c : Cpu) (v : Bool) : (c.withIme v).ime = v := rfl
@[simp] theorem Cpu.withIme_halted (c : Cpu) (v : Bool) : (c.withIme v).halted = c.halted := rfl
@[simp] theorem Cpu.withIme_cycle (c : Cpu) (v : Bool) : (c.withIme v).cycle = c.cycle := rfl
@[simp] theorem Cpu.withIme_spent (c : Cpu) (v : Bool) : (c.withIme v).spent = c.spent := rfl
@[simp] theorem Cpu.withIme_reg (c : Cpu) (v : Bool) (r : Reg8) :
    (c.withIme v).reg r = c.reg r := by cases r <;> rfl
@[simp] theorem Cpu.withIme_flagZ (c : Cpu) (v : Bool) : (c.withIme v).flagZ = c.flagZ := rfl
@[simp] theorem Cpu.withIme_flagN (c : Cpu) (v : Bool) : (c.withIme v).flagN = c.flagN := rfl
@[simp] theorem Cpu.withIme_flagH (c : Cpu) (v : Bool) : (c.withIme v).flagH = c.flagH := rfl
@[simp] theorem Cpu.withIme_flagC (c : Cpu) (v : Bool) : (c.withIme v).flagC = c.flagC := rfl
@[simp] theorem Cpu.withIme_pair (c : Cpu) (v : Bool) (p : Pair) :
    (c.withIme v).pair p = c.pair p := by cases p <;> rfl
@[simp] theorem Cpu.withHalted_a (c : Cpu) (v : Bool) : (c.withHalted v).a = c.a := rfl
@[simp] theorem Cpu.withHalted_f (c : Cpu) (v : Bool) : (c.withHalted v).f = c.f := rfl
@[simp] theorem Cpu.withHalted_b (c : Cpu) (v : Bool) : (c.withHalted v).b = c.b := rfl
@[simp] theorem Cpu.withHalted_c (c : Cpu) (v : Bool) : (c.withHalted v).c = c.c := rfl
@[simp] theorem Cpu.withHalted_d (c : Cpu) (v : Bool) : (c.withHalted v).d = c.d := rfl
@[simp] theorem Cpu.withHalted_e (c : Cpu) (v : Bool) : (c.withHalted v).e = c.e := rfl
@[simp] theorem Cpu.withHalted_h (c : Cpu) (v : Bool) : (c.withHalted v).h = c.h := rfl
@[simp] theorem Cpu.withHalted_l (c : Cpu) (v : Bool) : (c.withHalted v).l = c.l := rfl
@[simp] theorem Cpu.withHalted_sp (c : Cpu) (v : Bool) : (c.withHalted v).sp = c.sp := rfl
@[simp] theorem Cpu.withHalted_pc (c : Cpu) (v : Bool) : (c.withHalted v).pc = c.pc := rfl
@[simp] theorem Cpu.withHalted_ime (c : Cpu) (v : Bool) : (c.withHalted v).ime = c.ime := rfl
@[simp] theorem Cpu.withHalted_halted (c : Cpu) (v : Bool) : (c.withHalted v).halted = v := rfl
@[simp] theorem Cpu.withHalted_cycle (c : Cpu) (v : Bool) : (c.withHalted v).cycle = c.cycle := rfl
@[simp] theorem Cpu.withHalted_spent (c : Cpu) (v : Bool) : (c.withHalted v).spent = c.spent := rfl
@[simp] theorem Cpu.withHalted_reg (c : Cpu) (v : Bool) (r : Reg8) :
    (c.withHalted v).reg r = c.reg r := by cases r <;> rfl
@[simp] theorem Cpu.withHalted_flagZ (c : Cpu) (v : Bool) : (c.withHalted v).flagZ = c.flagZ := rfl
@[simp] theorem Cpu.withHalted_flagN (c : Cpu) (v : Bool) : (c.withHalted v).flagN = c.flagN := rfl
@[simp] theorem Cpu.withHalted_flagH (c : Cpu) (v : Bool) : (c.withHalted v).flagH = c.flagH := rfl
@[simp] theorem Cpu.withHalted_flagC (c : Cpu) (v : Bool) : (c.withHalted v).flagC = c.flagC := rfl
@[simp] theorem Cpu.withHalted_pair (c : Cpu) (v : Bool) (p : Pair) :
    (c.withHalted v).pair p = c.pair p := by cases p <;> rfl

/-! ## `countUpdate` -/

@[simp] theorem countUpdate_cpu (s : State) : (countUpdate s).cpu = s.cpu := rfl
@[simp] theorem countUpdate_mem (s : State) : (countUpdate s).mem = s.mem := rfl
@[simp] theorem countUpdate_vram (s : State) : (countUpdate s).vram = s.vram := rfl
@[simp] theorem countUpdate_oam (s : State) : (countUpdate s).oam = s.oam := rfl
@[simp] theorem countUpdate_timer (s : State) : (countUpdate s).timer = s.timer := rfl
@[simp] theorem countUpdate_ppu (s : State) : (countUpdate s).ppu = s.ppu := rfl
@[simp] theorem countUpdate_cart (s : State) : (countUpdate s).cart = s.cart := rfl
@[simp] theorem countUpdate_overlayActive (s : State) :
    (countUpdate s).overlayActive = s.overlayActive := rfl
@[simp] theorem countUpdate_held (s : State) : (countUpdate s).held = s.held := rfl
@[simp] theorem countUpdate_serialOut (s : State) : (countUpdate s).serialOut = s.serialOut := rfl
@[simp] theorem countUpdate_launch (s : State) :
    (countUpdate s).launch = { s.launch with updates := s.launch.updates + 1 } := rfl

end Sys2Proof.Machine
end

