-- ==== Sys2Proof/Laws/Bus.lean ====
section
/-! SUPPORT. The laws of the memory bus: what a read depends on, what a write changes, and the closed
forms of the writes of the device registers. -/

namespace Sys2Proof.Machine

/-! ## Regions -/

theorem regionOf_cartRom {a : Word} : regionOf a = .cartRom ↔ a.toNat ≤ 0x7FFF := by
  simp only [regionOf, BitVec.le_def]
  constructor
  · intro h; by_contra hn; simp_all; split at h <;> (try split at h) <;> (try split at h) <;> simp_all
  · intro h; simp_all

theorem regionOf_vram {a : Word} : regionOf a = .vram ↔ 0x8000 ≤ a.toNat ∧ a.toNat ≤ 0x9FFF := by
  simp only [regionOf, BitVec.le_def]
  simp only [BitVec.toNat_ofNat]
  split <;> (try split) <;> (try split) <;> (try split) <;> simp <;> omega

theorem regionOf_cartRam {a : Word} :
    regionOf a = .cartRam ↔ 0xA000 ≤ a.toNat ∧ a.toNat ≤ 0xBFFF := by
  simp only [regionOf, BitVec.le_def]
  simp only [BitVec.toNat_ofNat]
  split <;> (try split) <;> (try split) <;> (try split) <;> simp <;> omega

theorem regionOf_oam {a : Word} : regionOf a = .oam ↔ 0xFE00 ≤ a.toNat ∧ a.toNat ≤ 0xFE9F := by
  simp only [regionOf, BitVec.le_def]
  simp only [BitVec.toNat_ofNat]
  split <;> (try split) <;> (try split) <;> (try split) <;> simp <;> omega

theorem regionOf_internal {a : Word} :
    regionOf a = .internal ↔ 0xC000 ≤ a.toNat ∧ ¬ (0xFE00 ≤ a.toNat ∧ a.toNat ≤ 0xFE9F) := by
  simp only [regionOf, BitVec.le_def]
  simp only [BitVec.toNat_ofNat]
  split <;> (try split) <;> (try split) <;> (try split) <;> simp <;> omega

theorem vramIndex_eq {a : Word} (h : regionOf a = .vram) : vramIndex a = a.toNat - 0x8000 := by
  have := regionOf_vram.1 h
  have := a.isLt
  simp [vramIndex, BitVec.toNat_sub]
  omega

theorem oamIndex_eq {a : Word} (h : regionOf a = .oam) : oamIndex a = a.toNat - 0xFE00 := by
  have := regionOf_oam.1 h
  have := a.isLt
  simp [oamIndex, BitVec.toNat_sub]
  omega

/-! ## What a read depends on -/

@[simp] theorem busRead_withCpu (a : Word) (s : State) (c : Cpu) :
    busRead a (s.withCpu c) = busRead a s := rfl

@[simp] theorem busRead_setCpu (a : Word) (s : State) (c : Cpu) :
    busRead a { s with cpu := c } = busRead a s := rfl

@[simp] theorem busRead_withPpu (a : Word) (s : State) (p : Ppu) :
    busRead a (s.withPpu p) = busRead a s := rfl

@[simp] theorem busRead_withFetcher (a : Word) (s : State) (f : Fetcher) :
    busRead a (s.withFetcher f) = busRead a s := rfl

@[simp] theorem busRead_setTimer (a : Word) (s : State) (t : Timer) :
    busRead a { s with timer := t } = busRead a s := rfl

/-- A read of an internal address but JOYP is a read of the byte array. -/
theorem busRead_internal {a : Word} (s : State) (h : regionOf a = .internal) (hj : a ≠ s.io.joyp) :
    busRead a s = Store.read s.mem a.toNat := by
  simp only [busRead, h, if_neg hj]

/-! ## What a write changes -/

/-- The OAM copy changes OAM only. -/
theorem dmaFold_oam (v : Byte) (l : List Nat) (s : State) :
    l.foldl (dmaByte v) s = { s with oam := (l.foldl (dmaByte v) s).oam } := by
  induction l generalizing s with
  | nil => rfl
  | cons i l ih =>
    simp only [List.foldl_cons]
    rw [ih (dmaByte v s i)]
    rfl

theorem dmaCopy_oam (v : Byte) (s : State) : dmaCopy v s = { s with oam := (dmaCopy v s).oam } :=
  dmaFold_oam v _ s

/-- Everything a bus write can change: memory, the cartridge, the serial output. -/
theorem busWrite_frame (a : Word) (v : Byte) (s : State) :
    busWrite a v s =
      { s with
        mem := (busWrite a v s).mem, vram := (busWrite a v s).vram, oam := (busWrite a v s).oam
        cart := (busWrite a v s).cart, serialOut := (busWrite a v s).serialOut } := by
  unfold busWrite
  split
  · rfl
  · rfl
  · rfl
  · rfl
  · simp only
    split
    · rw [dmaCopy_oam]
    · split <;> rfl

@[simp] theorem busWrite_cpu (a : Word) (v : Byte) (s : State) : (busWrite a v s).cpu = s.cpu := by
  rw [busWrite_frame]

@[simp] theorem busWrite_timer (a : Word) (v : Byte) (s : State) :
    (busWrite a v s).timer = s.timer := by rw [busWrite_frame]

@[simp] theorem busWrite_ppu (a : Word) (v : Byte) (s : State) : (busWrite a v s).ppu = s.ppu := by
  rw [busWrite_frame]

@[simp] theorem busWrite_overlayActive (a : Word) (v : Byte) (s : State) :
    (busWrite a v s).overlayActive = s.overlayActive := by rw [busWrite_frame]

@[simp] theorem busWrite_held (a : Word) (v : Byte) (s : State) :
    (busWrite a v s).held = s.held := by rw [busWrite_frame]

@[simp] theorem busWrite_launch (a : Word) (v : Byte) (s : State) :
    (busWrite a v s).launch = s.launch := by rw [busWrite_frame]

theorem dmaFold_withCpu (v : Byte) (l : List Nat) (s : State) (c : Cpu) :
    l.foldl (dmaByte v) (s.withCpu c) = (l.foldl (dmaByte v) s).withCpu c := by
  induction l generalizing s with
  | nil => rfl
  | cons i l ih => exact ih (dmaByte v s i)

/-- A bus write neither reads nor writes the CPU. -/
theorem busWrite_withCpu (a : Word) (v : Byte) (s : State) (c : Cpu) :
    busWrite a v (s.withCpu c) = (busWrite a v s).withCpu c := by
  unfold busWrite
  split
  · rfl
  · rfl
  · rfl
  · rfl
  · have hio : (s.withCpu c).io = s.io := rfl
    have hp : (s.withCpu c).params = s.params := rfl
    simp only [hio, hp]
    split
    · exact dmaFold_withCpu v _ { s with mem := Store.write s.mem a.toNat v } c
    · split <;> rfl

/-- A write of an internal address but the DMA trigger and SC stores one byte and nothing else. -/
theorem busWrite_internal {a : Word} (v : Byte) (s : State) (h : regionOf a = .internal)
    (hd : a ≠ s.io.dma) (hs : a ≠ s.io.sc) :
    busWrite a v s = { s with mem := Store.write s.mem a.toNat v } := by
  simp only [busWrite, h, if_neg hd, hs, false_and, if_false]

/-! ## The device registers

With legal I/O addresses, each but JOYP, SC and DMA is an internal address with no side effect: writing
it stores a byte, reading it reads it. -/

/-- The default addresses are legal. -/
theorem IoMap.default_valid : IoMap.default.Valid where
  internal := by simp [IoMap.addresses, IoMap.plain, IoMap.default, regionOf_internal]
  distinct := by simp [IoMap.addresses, IoMap.plain, IoMap.default]

/-- The default parameters are legal. -/
theorem Params.default_valid : Params.default.Valid :=
  ⟨IoMap.default_valid, by decide, by decide, by decide⟩

/-- A plain register is internal and none of the three registers with a rule of their own. -/
theorem IoMap.Valid.plain {m : IoMap} (h : m.Valid) {a : Word} (ha : a ∈ m.plain) :
    regionOf a = .internal ∧ a ≠ m.joyp ∧ a ≠ m.dma ∧ a ≠ m.sc := by
  have hd := h.distinct
  simp only [IoMap.addresses, List.nodup_cons, List.mem_cons, not_or] at hd
  obtain ⟨hj, hs, hm, -⟩ := hd
  refine ⟨h.internal a (by simp [IoMap.addresses, ha]), ?_, ?_, ?_⟩
  · rintro rfl; exact hj.2.2 ha
  · rintro rfl; exact hm ha
  · rintro rfl; exact hs.2 ha

/-- Plain registers with different names are at different addresses. -/
theorem IoMap.Valid.plain_nodup {m : IoMap} (h : m.Valid) : m.plain.Nodup := by
  have hd := h.distinct
  simp only [IoMap.addresses, List.nodup_cons] at hd
  exact hd.2.2.2

theorem busRead_plain {s : State} (h : s.io.Valid) {a : Word} (ha : a ∈ s.io.plain) :
    busRead a s = Store.read s.mem a.toNat :=
  busRead_internal s (h.plain ha).1 (h.plain ha).2.1

theorem busWrite_plain {s : State} (h : s.io.Valid) {a : Word} (ha : a ∈ s.io.plain) (v : Byte) :
    busWrite a v s = { s with mem := Store.write s.mem a.toNat v } :=
  busWrite_internal v s (h.plain ha).1 (h.plain ha).2.2.1 (h.plain ha).2.2.2

/-- `SetInterruptFlag` stores one byte of the byte array (R246). -/
theorem setInterruptFlag_eq {s : State} (h : s.io.Valid) (i : Nat) (value : Bool) :
    setInterruptFlag i value s =
      { s with
        mem := Store.write s.mem s.io.iflag.toNat
          (if value then setBit (Store.read s.mem s.io.iflag.toNat) i
            else clearBit (Store.read s.mem s.io.iflag.toNat) i) } := by
  have hm : s.io.iflag ∈ s.io.plain := by simp [IoMap.plain]
  simp only [setInterruptFlag]
  rw [busWrite_plain h hm, busRead_plain h hm]

@[simp] theorem setInterruptFlag_cpu (i : Nat) (value : Bool) (s : State) :
    (setInterruptFlag i value s).cpu = s.cpu := by simp [setInterruptFlag]

@[simp] theorem setInterruptFlag_ppu (i : Nat) (value : Bool) (s : State) :
    (setInterruptFlag i value s).ppu = s.ppu := by simp [setInterruptFlag]

@[simp] theorem setInterruptFlag_timer (i : Nat) (value : Bool) (s : State) :
    (setInterruptFlag i value s).timer = s.timer := by simp [setInterruptFlag]

@[simp] theorem setInterruptFlag_launch (i : Nat) (value : Bool) (s : State) :
    (setInterruptFlag i value s).launch = s.launch := by simp [setInterruptFlag]

/-- Storing one byte of the byte array changes what no other address reads as. -/
theorem busRead_memWrite (a x : Word) (v : Byte) (s : State) (h : x ≠ a) :
    busRead x { s with mem := Store.write s.mem a.toNat v } = busRead x s := by
  have hx : x.toNat ≠ a.toNat := fun e => h (BitVec.eq_of_toNat_eq e)
  unfold busRead
  split
  · rfl
  · rfl
  · rfl
  · rfl
  · split
    · simp only [Store.read_write_ne _ _ hx]
    · exact Store.read_write_ne _ _ hx

/-- Reading back the byte just stored. -/
theorem busRead_memWrite_self (a : Word) (v : Byte) (s : State) (h : regionOf a = .internal)
    (hj : a ≠ s.io.joyp) : busRead a { s with mem := Store.write s.mem a.toNat v } = v := by
  rw [busRead_internal _ h (by exact hj)]
  exact Store.read_write_self _ _ _

end Sys2Proof.Machine
end

