-- ==== Sys2Proof/Laws/Ops.lean ====
section
/-! SUPPORT. What each shared operation can do, said once: completing an instruction, the stack, the
frames of stores, and that the operations keep the canonical form of memory. -/

namespace Sys2Proof.Machine

/-! ## Completing -/

theorem complete_eq (length cycles : Nat) (s : State) :
    complete length cycles s =
      .next (s.withCpu ((s.cpu.withPc (s.cpu.pc + BitVec.ofNat 16 length)).retire s.params.clock cycles)) := rfl

theorem completeAt_eq (target : Word) (cycles : Nat) (s : State) :
    completeAt target cycles s = .next (s.withCpu ((s.cpu.withPc target).retire s.params.clock cycles)) := rfl

/-- With no entry in `CYCLES`, an instruction's cycles are those of the table of R85. -/
theorem State.cyclesOf_default {s : State} (h : s.params.cycles = []) (i : Instr) (table : Nat) :
    s.cyclesOf i table = table := by simp [State.cyclesOf, h]

theorem State.cyclesNotTakenOf_default {s : State} (h : s.params.cyclesNotTaken = []) (i : Instr)
    (table : Nat) : s.cyclesNotTakenOf i table = table := by simp [State.cyclesNotTakenOf, h]

/-! ## The stack -/

/-- `Push16` is two bus writes and a stack pointer 2 lower (R106). -/
theorem push16_eq (v : Word) (s : State) :
    push16 v s =
      (busWrite (s.cpu.sp - 2#16) (loByte v) (busWrite (s.cpu.sp - 1#16) (hiByte v) s)).withCpu
        (s.cpu.withSp (s.cpu.sp - 2#16)) := by
  have h2 : s.cpu.sp - 1#16 - 1#16 = s.cpu.sp - 2#16 := by
    apply BitVec.eq_of_toNat_eq
    simp [BitVec.toNat_sub]
    omega
  simp only [push16, busWrite_withCpu, State.withCpu_cpu, Cpu.withSp_sp, h2, State.withCpu_withCpu]
  rfl

@[simp] theorem push16_timer (v : Word) (s : State) : (push16 v s).timer = s.timer := by
  simp [push16_eq]

@[simp] theorem push16_ppu (v : Word) (s : State) : (push16 v s).ppu = s.ppu := by simp [push16_eq]

@[simp] theorem push16_launch (v : Word) (s : State) : (push16 v s).launch = s.launch := by
  simp [push16_eq]

@[simp] theorem push16_held (v : Word) (s : State) : (push16 v s).held = s.held := by
  simp [push16_eq]

@[simp] theorem push16_overlayActive (v : Word) (s : State) :
    (push16 v s).overlayActive = s.overlayActive := by simp [push16_eq]

@[simp] theorem push16_cpu (v : Word) (s : State) :
    (push16 v s).cpu = s.cpu.withSp (s.cpu.sp - 2#16) := by simp [push16_eq]

/-- `Pop16` changes the stack pointer only (R107, R64). -/
theorem popState_eq (s : State) : popState s = s.withCpu (s.cpu.withSp (s.cpu.sp + 2#16)) := by
  have h2 : s.cpu.sp + 1#16 + 1#16 = s.cpu.sp + 2#16 := by
    apply BitVec.eq_of_toNat_eq
    simp [BitVec.toNat_add]
  simp only [popState, h2]

/-! ## The canonical form -/

/-- The OAM copy keeps OAM's canonical form and range. -/
theorem dmaFold_inv (v : Byte) (l : List Nat) (s : State) (hl : ∀ i ∈ l, i < 160)
    (h : Memory.wf s.oam ∧ Store.below 160 s.oam) :
    Memory.wf (l.foldl (dmaByte v) s).oam ∧ Store.below 160 (l.foldl (dmaByte v) s).oam := by
  induction l generalizing s with
  | nil => exact h
  | cons i l ih =>
    refine ih (dmaByte v s i) (fun j hj => hl j (by simp [hj])) ⟨?_, ?_⟩
    · exact Store.write_wf h.1 _ _
    · exact Store.write_below h.2 (hl i (by simp)) _

theorem dmaCopy_memoryInv {s : State} (h : MemoryInv s) (v : Byte) : MemoryInv (dmaCopy v s) := by
  have key := dmaFold_inv v (List.range 160) s (by simp) ⟨h.oam, h.oamRange⟩
  rw [dmaCopy_oam]
  generalize hc : dmaCopy v s = c
  have hc : (List.range 160).foldl (dmaByte v) s = c := hc
  rw [hc] at key
  exact { h with oam := key.1, oamRange := key.2 }

theorem Cart.ramIndex_lt {c : Cart} {a : Word} {i : Nat} (h : c.ramIndex a = some i) :
    i < c.ramSize := by
  unfold Cart.ramIndex at h
  split at h
  · cases h
  · rename_i hz
    split at h
    · cases h; exact Nat.mod_lt _ (by omega)
    · split at h
      · cases h; exact Nat.mod_lt _ (by omega)
      · cases h

/-- The mapper's write keeps both stores' forms and their sizes. -/
theorem Cart.writeRom_stores (c : Cart) (a : Word) (v : Byte) :
    (c.writeRom a v).rom = c.rom ∧ (c.writeRom a v).ram = c.ram ∧
      (c.writeRom a v).romBanks = c.romBanks ∧ (c.writeRom a v).ramSize = c.ramSize := by
  unfold Cart.writeRom
  split
  · simp
  · split
    · simp
    · split
      · simp
      · split <;> simp

/-- A cartridge RAM write changes RAM only, and keeps its form and range. -/
theorem Cart.writeRam_stores (c : Cart) (a : Word) (v : Byte)
    (h : Memory.wf c.ram ∧ Store.below c.ramSize c.ram) :
    Memory.wf (c.writeRam a v).ram ∧ Store.below c.ramSize (c.writeRam a v).ram ∧
      (c.writeRam a v) = { c with ram := (c.writeRam a v).ram } := by
  unfold Cart.writeRam
  split
  · rename_i i hi
    exact ⟨Store.write_wf h.1 _ _, Store.write_below h.2 (Cart.ramIndex_lt hi) _, rfl⟩
  · exact ⟨h.1, h.2, rfl⟩

/-- A bus write keeps every memory in canonical form and in its range. -/
theorem busWrite_memoryInv {s : State} (h : MemoryInv s) (a : Word) (v : Byte) :
    MemoryInv (busWrite a v s) := by
  have hin : regionOf a = .internal → Memory.wf (Store.write s.mem a.toNat v) ∧
      ∀ x ∈ Store.write s.mem a.toNat v,
        x.1 < 65536 ∧ regionOf (BitVec.ofNat 16 x.1) = .internal := fun ha =>
    ⟨Store.write_wf h.mem _ _,
      Store.write_forall (P := fun k => k < 65536 ∧ regionOf (BitVec.ofNat 16 k) = .internal)
        h.memRange ⟨a.isLt, by simpa using ha⟩ v⟩
  unfold busWrite
  split
  · refine { h with rom := ?_, ram := ?_ } <;>
    · intro c hc
      obtain ⟨d, hd, rfl⟩ : ∃ d, s.cart = some d ∧ d.writeRom a v = c := by simpa using hc
      obtain ⟨h1, h2, h3, h4⟩ := Cart.writeRom_stores d a v
      first
      | (rw [h1, h3]; exact h.rom d hd)
      | (rw [h2, h4]; exact h.ram d hd)
  · rename_i ha
    have := regionOf_vram.1 ha
    exact { h with
      vram := Store.write_wf h.vram _ _
      vramRange := Store.write_below h.vramRange (by rw [vramIndex_eq ha]; omega) _ }
  · refine { h with rom := ?_, ram := ?_ } <;>
    · intro c hc
      obtain ⟨d, hd, rfl⟩ : ∃ d, s.cart = some d ∧ d.writeRam a v = c := by simpa using hc
      obtain ⟨h1, h2, h3⟩ := Cart.writeRam_stores d a v (h.ram d hd)
      first
      | (rw [h3]; exact h.rom d hd)
      | (rw [h3]; exact ⟨h1, h2⟩)
  · rename_i ha
    have := regionOf_oam.1 ha
    exact { h with
      oam := Store.write_wf h.oam _ _
      oamRange := Store.write_below h.oamRange (by rw [oamIndex_eq ha]; omega) _ }
  · rename_i ha
    obtain ⟨h1, h2⟩ := hin ha
    have hst : MemoryInv { s with mem := Store.write s.mem a.toNat v } :=
      { h with mem := h1, memRange := h2 }
    simp only
    split
    · exact dmaCopy_memoryInv hst v
    · split
      · exact { hst with }
      · exact hst

/-- Changing the CPU keeps every memory. -/
theorem MemoryInv.withCpu {s : State} (h : MemoryInv s) (c : Cpu) : MemoryInv (s.withCpu c) :=
  { h with }

theorem push16_memoryInv {s : State} (h : MemoryInv s) (v : Word) : MemoryInv (push16 v s) := by
  rw [push16_eq]
  exact (busWrite_memoryInv (busWrite_memoryInv h _ _) _ _).withCpu _

theorem setInterruptFlag_memoryInv {s : State} (h : MemoryInv s) (i : Nat) (value : Bool) :
    MemoryInv (setInterruptFlag i value s) := by
  unfold setInterruptFlag
  exact busWrite_memoryInv h _ _

/-- A loaded cartridge's memories are in canonical form and in their ranges. -/
theorem cartOfImage_stores {image : List Byte} {c : Cart} (h : cartOfImage image = some c) :
    (Memory.wf c.rom ∧ Store.below (romBankBytes * c.romBanks) c.rom) ∧ c.ram = [] := by
  unfold cartOfImage at h
  split at h
  · cases h
  · split at h
    · cases h
      refine ⟨⟨Store.ofBytes_wf _ _, fun x hx => ?_⟩, rfl⟩
      have := Store.ofBytes_below _ x hx
      rw [List.length_take] at this
      exact Nat.lt_of_lt_of_le this (Nat.min_le_left _ _)
    · cases h

end Sys2Proof.Machine
end

