-- ==== Sys2Proof/Laws/Devices.lean ====
section
/-! SUPPORT. The devices: repetition, and the closed forms of the timer's and the PPU's register
writes. -/

namespace Sys2Proof.Machine

/-! ## Repetition -/

@[simp] theorem times_zero (f : State → State) (s : State) : times 0 f s = s := rfl

theorem times_succ (n : Nat) (f : State → State) (s : State) :
    times (n + 1) f s = times n f (f s) := rfl

theorem times_add (n m : Nat) (f : State → State) (s : State) :
    times (n + m) f s = times m f (times n f s) := by
  induction n generalizing s with
  | zero => simp
  | succ n ih => rw [Nat.add_right_comm, times_succ, times_succ, ih]

theorem times_succ' (n : Nat) (f : State → State) (s : State) :
    times (n + 1) f s = f (times n f s) := times_add n 1 f s

/-- What one repetition keeps, all of them keep. -/
theorem times_induct {P : State → Prop} {f : State → State} (hf : ∀ s, P s → P (f s)) (n : Nat)
    {s : State} (h : P s) : P (times n f s) := by
  induction n generalizing s with
  | zero => exact h
  | succ n ih => exact ih (hf s h)

/-- A relation that one repetition establishes and that composes holds across all of them. -/
theorem times_rel {R : State → State → Prop} (hr : ∀ s, R s s)
    (ht : ∀ s t u, R s t → R t u → R s u) {f : State → State} (hf : ∀ s, R s (f s)) (n : Nat)
    (s : State) : R s (times n f s) := by
  induction n generalizing s with
  | zero => exact hr s
  | succ n ih => exact ht _ _ _ (hf s) (ih (f s))

/-! ## Register writes -/

theorem divIncrement_eq {s : State} (h : s.io.Valid) :
    divIncrement s =
      { s with
        mem := Store.write s.mem s.io.div.toNat (Store.read s.mem s.io.div.toNat + 1#8) } := by
  have hm : s.io.div ∈ s.io.plain := by simp [IoMap.plain]
  simp only [divIncrement]
  rw [busWrite_plain h hm, busRead_plain h hm]

/-- One counter increment: TIMA goes up, or reloads and requests interrupt 2 (R199). -/
theorem timaIncrement_eq {s : State} (h : s.io.Valid) :
    timaIncrement s =
      if Store.read s.mem s.io.tima.toNat = 0xFF#8 then
        setInterruptFlag 2 true
          { s with mem := Store.write s.mem s.io.tima.toNat (Store.read s.mem s.io.tma.toNat) }
      else
        { s with
          mem := Store.write s.mem s.io.tima.toNat (Store.read s.mem s.io.tima.toNat + 1#8) } := by
  have hi : s.io.tima ∈ s.io.plain := by simp [IoMap.plain]
  have hm : s.io.tma ∈ s.io.plain := by simp [IoMap.plain]
  simp only [timaIncrement, busWrite_plain h hi, busRead_plain h hi, busRead_plain h hm]

theorem timaPeriodOf_pos {p : Params} (h : p.Valid) (tac : Byte) :
    0 < timaPeriodOf p.timaPeriods tac := h.timaPeriods _

/-- `SetMode` in closed form: STAT and, where requested, `IF` are stored (R209). -/
theorem setMode_eq {s : State} (h : s.io.Valid) (m : PpuMode) :
    setMode m s =
      let ly := Store.read s.mem s.io.ly.toNat
      let lyc := Store.read s.mem s.io.lyc.toNat
      let st := statByte m (Store.read s.mem s.io.stat.toNat) ly lyc
      let s1 : State :=
        { s with ppu := { s.ppu with mode := m }, mem := Store.write s.mem s.io.stat.toNat st }
      let s2 := if statRequest m st (ly == lyc) then setInterruptFlag 1 true s1 else s1
      if m = .vblank then setInterruptFlag 0 true s2 else s2 := by
  have h1 : s.io.stat ∈ s.io.plain := by simp [IoMap.plain]
  have h2 : s.io.ly ∈ s.io.plain := by simp [IoMap.plain]
  have h3 : s.io.lyc ∈ s.io.plain := by simp [IoMap.plain]
  simp only [setMode, busRead_plain h h1, busRead_plain h h2, busRead_plain h h3]
  rw [busWrite_plain (s := s.withPpu { s.ppu with mode := m }) h h1]
  rfl

/-- `SetMode` changes the PPU's mode and nothing else of the PPU. -/
@[simp] theorem setMode_ppu (m : PpuMode) (s : State) :
    (setMode m s).ppu = { s.ppu with mode := m } := by
  simp only [setMode]
  split <;> split <;> simp

@[simp] theorem setMode_cpu (m : PpuMode) (s : State) : (setMode m s).cpu = s.cpu := by
  simp only [setMode]
  split <;> split <;> simp

@[simp] theorem setMode_launch (m : PpuMode) (s : State) : (setMode m s).launch = s.launch := by
  simp only [setMode]
  split <;> split <;> simp

@[simp] theorem divIncrement_launch (s : State) : (divIncrement s).launch = s.launch := by
  simp [divIncrement]

@[simp] theorem timaIncrement_launch (s : State) : (timaIncrement s).launch = s.launch := by
  simp only [timaIncrement]
  split <;> simp

/-- A device's register write keeps every memory. -/
theorem setMode_memoryInv {s : State} (h : MemoryInv s) (m : PpuMode) : MemoryInv (setMode m s) := by
  have hm : MemoryInv (s.withPpu { s.ppu with mode := m }) := { h with }
  have key : ∀ v, MemoryInv (busWrite s.io.stat v (s.withPpu { s.ppu with mode := m })) :=
    fun v => busWrite_memoryInv hm _ _
  unfold setMode
  have key2 : ∀ b v, MemoryInv (if b = true then setInterruptFlag 1 true
      (busWrite s.io.stat v (s.withPpu { s.ppu with mode := m }))
      else busWrite s.io.stat v (s.withPpu { s.ppu with mode := m })) := fun b v => by
    cases b
    · exact key v
    · exact setInterruptFlag_memoryInv (key v) 1 true
  simp only
  split
  · exact setInterruptFlag_memoryInv (key2 _ _) 0 true
  · exact key2 _ _

end Sys2Proof.Machine
end

