-- ==== Sys2Proof/Tests/Slice0.lean ====
section
/-! SUPPORT. Our own tests. Expected values come from spec/: the encodings of opcode_table.json, the
vectors of 95_test_vectors.md, the worked examples of the rules named. -/

namespace Sys2Proof.Tests

open Sys2Proof.Machine

/-! ## WellFormed refuses ill-formed byte sequences (R69, R71) -/

theorem test_wf_refuses_no_bytes : bytesWellFormed [] = false := by decide
theorem test_wf_refuses_missing_immediate : bytesWellFormed [0x3E] = false := by decide
theorem test_wf_refuses_missing_high_byte : bytesWellFormed [0xC3, 0x50] = false := by decide
theorem test_wf_refuses_prefix_alone : bytesWellFormed [0xCB] = false := by decide
theorem test_wf_refuses_left_over_byte : bytesWellFormed [0x00, 0x00] = false := by decide
theorem test_wf_accepts_three_bytes : bytesWellFormed [0xC3, 0x50, 0x01] = true := by decide
theorem test_decode_refuses_truncated :
    (match decode [0xCD, 0x50] with | .error .truncated => true | _ => false) = true := by decide

/-! ## Every row of opcode_table.json decodes to its constructor

The words are the table's `encoding` strings with `n8 = 0x5A`, `e8 = 0x9C`, `n16 = 0x1234`. -/

/-- Whether every word of a list decodes, whole, to the instruction beside it. -/
def decodesAll (l : List (List Byte × Instr)) : Bool :=
  l.all (fun p => match decode p.1 with
    | .ok (i, []) => i == p.2
    | _ => false)

theorem test_decode_rows_0 : decodesAll
    [([0x00], .nop), ([0x01, 0x34, 0x12], .ld_bc_n16 0x1234), ([0x02], .ld_mbc_a),
     ([0x03], .inc_bc), ([0x04], .inc_b), ([0x05], .dec_b), ([0x06, 0x5A], .ld_b_n8 0x5A),
     ([0x07], .rlca), ([0x08, 0x34, 0x12], .ld_ma16_sp 0x1234), ([0x09], .add_hl_bc),
     ([0x0A], .ld_a_mbc), ([0x0B], .dec_bc), ([0x0C], .inc_c), ([0x0D], .dec_c),
     ([0x0E, 0x5A], .ld_c_n8 0x5A), ([0x0F], .rrca), ([0x10, 0x5A], .stop 0x5A),
     ([0x11, 0x34, 0x12], .ld_de_n16 0x1234), ([0x12], .ld_mde_a), ([0x13], .inc_de),
     ([0x14], .inc_d), ([0x15], .dec_d), ([0x16, 0x5A], .ld_d_n8 0x5A), ([0x17], .rla),
     ([0x18, 0x9C], .jr_e8 0x9C), ([0x19], .add_hl_de), ([0x1A], .ld_a_mde), ([0x1B], .dec_de),
     ([0x1C], .inc_e), ([0x1D], .dec_e), ([0x1E, 0x5A], .ld_e_n8 0x5A), ([0x1F], .rra),
     ([0x20, 0x9C], .jr_nz_e8 0x9C), ([0x21, 0x34, 0x12], .ld_hl_n16 0x1234),
     ([0x22], .ld_mhli_a), ([0x23], .inc_hl), ([0x24], .inc_h), ([0x25], .dec_h),
     ([0x26, 0x5A], .ld_h_n8 0x5A), ([0x27], .daa), ([0x28, 0x9C], .jr_z_e8 0x9C),
     ([0x29], .add_hl_hl), ([0x2A], .ld_a_mhli), ([0x2B], .dec_hl), ([0x2C], .inc_l),
     ([0x2D], .dec_l), ([0x2E, 0x5A], .ld_l_n8 0x5A), ([0x2F], .cpl),
     ([0x30, 0x9C], .jr_nc_e8 0x9C), ([0x31, 0x34, 0x12], .ld_sp_n16 0x1234),
     ([0x32], .ld_mhld_a), ([0x33], .inc_sp), ([0x34], .inc_mhl), ([0x35], .dec_mhl),
     ([0x36, 0x5A], .ld_mhl_n8 0x5A), ([0x37], .scf), ([0x38, 0x9C], .jr_c_e8 0x9C),
     ([0x39], .add_hl_sp), ([0x3A], .ld_a_mhld), ([0x3B], .dec_sp), ([0x3C], .inc_a),
     ([0x3D], .dec_a), ([0x3E, 0x5A], .ld_a_n8 0x5A), ([0x3F], .ccf)] = true := by decide

theorem test_decode_rows_1 : decodesAll
    [([0x40], .ld_b_b), ([0x41], .ld_b_c), ([0x42], .ld_b_d), ([0x43], .ld_b_e),
     ([0x44], .ld_b_h), ([0x45], .ld_b_l), ([0x46], .ld_b_mhl), ([0x47], .ld_b_a),
     ([0x48], .ld_c_b), ([0x49], .ld_c_c), ([0x4A], .ld_c_d), ([0x4B], .ld_c_e),
     ([0x4C], .ld_c_h), ([0x4D], .ld_c_l), ([0x4E], .ld_c_mhl), ([0x4F], .ld_c_a),
     ([0x50], .ld_d_b), ([0x51], .ld_d_c), ([0x52], .ld_d_d), ([0x53], .ld_d_e),
     ([0x54], .ld_d_h), ([0x55], .ld_d_l), ([0x56], .ld_d_mhl), ([0x57], .ld_d_a),
     ([0x58], .ld_e_b), ([0x59], .ld_e_c), ([0x5A], .ld_e_d), ([0x5B], .ld_e_e),
     ([0x5C], .ld_e_h), ([0x5D], .ld_e_l), ([0x5E], .ld_e_mhl), ([0x5F], .ld_e_a),
     ([0x60], .ld_h_b), ([0x61], .ld_h_c), ([0x62], .ld_h_d), ([0x63], .ld_h_e),
     ([0x64], .ld_h_h), ([0x65], .ld_h_l), ([0x66], .ld_h_mhl), ([0x67], .ld_h_a),
     ([0x68], .ld_l_b), ([0x69], .ld_l_c), ([0x6A], .ld_l_d), ([0x6B], .ld_l_e),
     ([0x6C], .ld_l_h), ([0x6D], .ld_l_l), ([0x6E], .ld_l_mhl), ([0x6F], .ld_l_a),
     ([0x70], .ld_mhl_b), ([0x71], .ld_mhl_c), ([0x72], .ld_mhl_d), ([0x73], .ld_mhl_e),
     ([0x74], .ld_mhl_h), ([0x75], .ld_mhl_l), ([0x76], .halt), ([0x77], .ld_mhl_a),
     ([0x78], .ld_a_b), ([0x79], .ld_a_c), ([0x7A], .ld_a_d), ([0x7B], .ld_a_e),
     ([0x7C], .ld_a_h), ([0x7D], .ld_a_l), ([0x7E], .ld_a_mhl), ([0x7F], .ld_a_a)] = true := by decide

theorem test_decode_rows_2 : decodesAll
    [([0x80], .add_a_b), ([0x81], .add_a_c), ([0x82], .add_a_d), ([0x83], .add_a_e),
     ([0x84], .add_a_h), ([0x85], .add_a_l), ([0x86], .add_a_mhl), ([0x87], .add_a_a),
     ([0x88], .adc_a_b), ([0x89], .adc_a_c), ([0x8A], .adc_a_d), ([0x8B], .adc_a_e),
     ([0x8C], .adc_a_h), ([0x8D], .adc_a_l), ([0x8E], .adc_a_mhl), ([0x8F], .adc_a_a),
     ([0x90], .sub_a_b), ([0x91], .sub_a_c), ([0x92], .sub_a_d), ([0x93], .sub_a_e),
     ([0x94], .sub_a_h), ([0x95], .sub_a_l), ([0x96], .sub_a_mhl), ([0x97], .sub_a_a),
     ([0x98], .sbc_a_b), ([0x99], .sbc_a_c), ([0x9A], .sbc_a_d), ([0x9B], .sbc_a_e),
     ([0x9C], .sbc_a_h), ([0x9D], .sbc_a_l), ([0x9E], .sbc_a_mhl), ([0x9F], .sbc_a_a),
     ([0xA0], .and_a_b), ([0xA1], .and_a_c), ([0xA2], .and_a_d), ([0xA3], .and_a_e),
     ([0xA4], .and_a_h), ([0xA5], .and_a_l), ([0xA6], .and_a_mhl), ([0xA7], .and_a_a),
     ([0xA8], .xor_a_b), ([0xA9], .xor_a_c), ([0xAA], .xor_a_d), ([0xAB], .xor_a_e),
     ([0xAC], .xor_a_h), ([0xAD], .xor_a_l), ([0xAE], .xor_a_mhl), ([0xAF], .xor_a_a),
     ([0xB0], .or_a_b), ([0xB1], .or_a_c), ([0xB2], .or_a_d), ([0xB3], .or_a_e),
     ([0xB4], .or_a_h), ([0xB5], .or_a_l), ([0xB6], .or_a_mhl), ([0xB7], .or_a_a),
     ([0xB8], .cp_a_b), ([0xB9], .cp_a_c), ([0xBA], .cp_a_d), ([0xBB], .cp_a_e),
     ([0xBC], .cp_a_h), ([0xBD], .cp_a_l), ([0xBE], .cp_a_mhl), ([0xBF], .cp_a_a)] = true := by decide

theorem test_decode_rows_3 : decodesAll
    [([0xC0], .ret_nz), ([0xC1], .pop_bc), ([0xC2, 0x34, 0x12], .jp_nz_a16 0x1234),
     ([0xC3, 0x34, 0x12], .jp_a16 0x1234), ([0xC4, 0x34, 0x12], .call_nz_a16 0x1234),
     ([0xC5], .push_bc), ([0xC6, 0x5A], .add_a_n8 0x5A), ([0xC7], .rst_00h), ([0xC8], .ret_z),
     ([0xC9], .ret), ([0xCA, 0x34, 0x12], .jp_z_a16 0x1234),
     ([0xCC, 0x34, 0x12], .call_z_a16 0x1234), ([0xCD, 0x34, 0x12], .call_a16 0x1234),
     ([0xCE, 0x5A], .adc_a_n8 0x5A), ([0xCF], .rst_08h), ([0xD0], .ret_nc), ([0xD1], .pop_de),
     ([0xD2, 0x34, 0x12], .jp_nc_a16 0x1234), ([0xD3], .invalid_d3),
     ([0xD4, 0x34, 0x12], .call_nc_a16 0x1234), ([0xD5], .push_de),
     ([0xD6, 0x5A], .sub_a_n8 0x5A), ([0xD7], .rst_10h), ([0xD8], .ret_c), ([0xD9], .reti),
     ([0xDA, 0x34, 0x12], .jp_c_a16 0x1234), ([0xDB], .invalid_db),
     ([0xDC, 0x34, 0x12], .call_c_a16 0x1234), ([0xDD], .invalid_dd),
     ([0xDE, 0x5A], .sbc_a_n8 0x5A), ([0xDF], .rst_18h), ([0xE0, 0x5A], .ldh_ma8_a 0x5A),
     ([0xE1], .pop_hl), ([0xE2], .ldh_mc_a), ([0xE3], .invalid_e3), ([0xE4], .invalid_e4),
     ([0xE5], .push_hl), ([0xE6, 0x5A], .and_a_n8 0x5A), ([0xE7], .rst_20h),
     ([0xE8, 0x9C], .add_sp_e8 0x9C), ([0xE9], .jp_hl), ([0xEA, 0x34, 0x12], .ld_ma16_a 0x1234),
     ([0xEB], .invalid_eb), ([0xEC], .invalid_ec), ([0xED], .invalid_ed),
     ([0xEE, 0x5A], .xor_a_n8 0x5A), ([0xEF], .rst_28h), ([0xF0, 0x5A], .ldh_a_ma8 0x5A),
     ([0xF1], .pop_af), ([0xF2], .ldh_a_mc), ([0xF3], .di), ([0xF4], .invalid_f4),
     ([0xF5], .push_af), ([0xF6, 0x5A], .or_a_n8 0x5A), ([0xF7], .rst_30h),
     ([0xF8, 0x9C], .ld_hl_spe8 0x9C), ([0xF9], .ld_sp_hl),
     ([0xFA, 0x34, 0x12], .ld_a_ma16 0x1234), ([0xFB], .ei), ([0xFC], .invalid_fc),
     ([0xFD], .invalid_fd), ([0xFE, 0x5A], .cp_a_n8 0x5A), ([0xFF], .rst_38h),
     ([0xCB, 0x00], .rlc_b)] = true := by decide

theorem test_decode_rows_4 : decodesAll
    [([0xCB, 0x01], .rlc_c), ([0xCB, 0x02], .rlc_d), ([0xCB, 0x03], .rlc_e),
     ([0xCB, 0x04], .rlc_h), ([0xCB, 0x05], .rlc_l), ([0xCB, 0x06], .rlc_mhl),
     ([0xCB, 0x07], .rlc_a), ([0xCB, 0x08], .rrc_b), ([0xCB, 0x09], .rrc_c),
     ([0xCB, 0x0A], .rrc_d), ([0xCB, 0x0B], .rrc_e), ([0xCB, 0x0C], .rrc_h),
     ([0xCB, 0x0D], .rrc_l), ([0xCB, 0x0E], .rrc_mhl), ([0xCB, 0x0F], .rrc_a),
     ([0xCB, 0x10], .rl_b), ([0xCB, 0x11], .rl_c), ([0xCB, 0x12], .rl_d), ([0xCB, 0x13], .rl_e),
     ([0xCB, 0x14], .rl_h), ([0xCB, 0x15], .rl_l), ([0xCB, 0x16], .rl_mhl),
     ([0xCB, 0x17], .rl_a), ([0xCB, 0x18], .rr_b), ([0xCB, 0x19], .rr_c), ([0xCB, 0x1A], .rr_d),
     ([0xCB, 0x1B], .rr_e), ([0xCB, 0x1C], .rr_h), ([0xCB, 0x1D], .rr_l),
     ([0xCB, 0x1E], .rr_mhl), ([0xCB, 0x1F], .rr_a), ([0xCB, 0x20], .sla_b),
     ([0xCB, 0x21], .sla_c), ([0xCB, 0x22], .sla_d), ([0xCB, 0x23], .sla_e),
     ([0xCB, 0x24], .sla_h), ([0xCB, 0x25], .sla_l), ([0xCB, 0x26], .sla_mhl),
     ([0xCB, 0x27], .sla_a), ([0xCB, 0x28], .sra_b), ([0xCB, 0x29], .sra_c),
     ([0xCB, 0x2A], .sra_d), ([0xCB, 0x2B], .sra_e), ([0xCB, 0x2C], .sra_h),
     ([0xCB, 0x2D], .sra_l), ([0xCB, 0x2E], .sra_mhl), ([0xCB, 0x2F], .sra_a),
     ([0xCB, 0x30], .swap_b), ([0xCB, 0x31], .swap_c), ([0xCB, 0x32], .swap_d),
     ([0xCB, 0x33], .swap_e), ([0xCB, 0x34], .swap_h), ([0xCB, 0x35], .swap_l),
     ([0xCB, 0x36], .swap_mhl), ([0xCB, 0x37], .swap_a), ([0xCB, 0x38], .srl_b),
     ([0xCB, 0x39], .srl_c), ([0xCB, 0x3A], .srl_d), ([0xCB, 0x3B], .srl_e),
     ([0xCB, 0x3C], .srl_h), ([0xCB, 0x3D], .srl_l), ([0xCB, 0x3E], .srl_mhl),
     ([0xCB, 0x3F], .srl_a), ([0xCB, 0x40], .bit_0_b)] = true := by decide

theorem test_decode_rows_5 : decodesAll
    [([0xCB, 0x41], .bit_0_c), ([0xCB, 0x42], .bit_0_d), ([0xCB, 0x43], .bit_0_e),
     ([0xCB, 0x44], .bit_0_h), ([0xCB, 0x45], .bit_0_l), ([0xCB, 0x46], .bit_0_mhl),
     ([0xCB, 0x47], .bit_0_a), ([0xCB, 0x48], .bit_1_b), ([0xCB, 0x49], .bit_1_c),
     ([0xCB, 0x4A], .bit_1_d), ([0xCB, 0x4B], .bit_1_e), ([0xCB, 0x4C], .bit_1_h),
     ([0xCB, 0x4D], .bit_1_l), ([0xCB, 0x4E], .bit_1_mhl), ([0xCB, 0x4F], .bit_1_a),
     ([0xCB, 0x50], .bit_2_b), ([0xCB, 0x51], .bit_2_c), ([0xCB, 0x52], .bit_2_d),
     ([0xCB, 0x53], .bit_2_e), ([0xCB, 0x54], .bit_2_h), ([0xCB, 0x55], .bit_2_l),
     ([0xCB, 0x56], .bit_2_mhl), ([0xCB, 0x57], .bit_2_a), ([0xCB, 0x58], .bit_3_b),
     ([0xCB, 0x59], .bit_3_c), ([0xCB, 0x5A], .bit_3_d), ([0xCB, 0x5B], .bit_3_e),
     ([0xCB, 0x5C], .bit_3_h), ([0xCB, 0x5D], .bit_3_l), ([0xCB, 0x5E], .bit_3_mhl),
     ([0xCB, 0x5F], .bit_3_a), ([0xCB, 0x60], .bit_4_b), ([0xCB, 0x61], .bit_4_c),
     ([0xCB, 0x62], .bit_4_d), ([0xCB, 0x63], .bit_4_e), ([0xCB, 0x64], .bit_4_h),
     ([0xCB, 0x65], .bit_4_l), ([0xCB, 0x66], .bit_4_mhl), ([0xCB, 0x67], .bit_4_a),
     ([0xCB, 0x68], .bit_5_b), ([0xCB, 0x69], .bit_5_c), ([0xCB, 0x6A], .bit_5_d),
     ([0xCB, 0x6B], .bit_5_e), ([0xCB, 0x6C], .bit_5_h), ([0xCB, 0x6D], .bit_5_l),
     ([0xCB, 0x6E], .bit_5_mhl), ([0xCB, 0x6F], .bit_5_a), ([0xCB, 0x70], .bit_6_b),
     ([0xCB, 0x71], .bit_6_c), ([0xCB, 0x72], .bit_6_d), ([0xCB, 0x73], .bit_6_e),
     ([0xCB, 0x74], .bit_6_h), ([0xCB, 0x75], .bit_6_l), ([0xCB, 0x76], .bit_6_mhl),
     ([0xCB, 0x77], .bit_6_a), ([0xCB, 0x78], .bit_7_b), ([0xCB, 0x79], .bit_7_c),
     ([0xCB, 0x7A], .bit_7_d), ([0xCB, 0x7B], .bit_7_e), ([0xCB, 0x7C], .bit_7_h),
     ([0xCB, 0x7D], .bit_7_l), ([0xCB, 0x7E], .bit_7_mhl), ([0xCB, 0x7F], .bit_7_a),
     ([0xCB, 0x80], .res_0_b)] = true := by decide

theorem test_decode_rows_6 : decodesAll
    [([0xCB, 0x81], .res_0_c), ([0xCB, 0x82], .res_0_d), ([0xCB, 0x83], .res_0_e),
     ([0xCB, 0x84], .res_0_h), ([0xCB, 0x85], .res_0_l), ([0xCB, 0x86], .res_0_mhl),
     ([0xCB, 0x87], .res_0_a), ([0xCB, 0x88], .res_1_b), ([0xCB, 0x89], .res_1_c),
     ([0xCB, 0x8A], .res_1_d), ([0xCB, 0x8B], .res_1_e), ([0xCB, 0x8C], .res_1_h),
     ([0xCB, 0x8D], .res_1_l), ([0xCB, 0x8E], .res_1_mhl), ([0xCB, 0x8F], .res_1_a),
     ([0xCB, 0x90], .res_2_b), ([0xCB, 0x91], .res_2_c), ([0xCB, 0x92], .res_2_d),
     ([0xCB, 0x93], .res_2_e), ([0xCB, 0x94], .res_2_h), ([0xCB, 0x95], .res_2_l),
     ([0xCB, 0x96], .res_2_mhl), ([0xCB, 0x97], .res_2_a), ([0xCB, 0x98], .res_3_b),
     ([0xCB, 0x99], .res_3_c), ([0xCB, 0x9A], .res_3_d), ([0xCB, 0x9B], .res_3_e),
     ([0xCB, 0x9C], .res_3_h), ([0xCB, 0x9D], .res_3_l), ([0xCB, 0x9E], .res_3_mhl),
     ([0xCB, 0x9F], .res_3_a), ([0xCB, 0xA0], .res_4_b), ([0xCB, 0xA1], .res_4_c),
     ([0xCB, 0xA2], .res_4_d), ([0xCB, 0xA3], .res_4_e), ([0xCB, 0xA4], .res_4_h),
     ([0xCB, 0xA5], .res_4_l), ([0xCB, 0xA6], .res_4_mhl), ([0xCB, 0xA7], .res_4_a),
     ([0xCB, 0xA8], .res_5_b), ([0xCB, 0xA9], .res_5_c), ([0xCB, 0xAA], .res_5_d),
     ([0xCB, 0xAB], .res_5_e), ([0xCB, 0xAC], .res_5_h), ([0xCB, 0xAD], .res_5_l),
     ([0xCB, 0xAE], .res_5_mhl), ([0xCB, 0xAF], .res_5_a), ([0xCB, 0xB0], .res_6_b),
     ([0xCB, 0xB1], .res_6_c), ([0xCB, 0xB2], .res_6_d), ([0xCB, 0xB3], .res_6_e),
     ([0xCB, 0xB4], .res_6_h), ([0xCB, 0xB5], .res_6_l), ([0xCB, 0xB6], .res_6_mhl),
     ([0xCB, 0xB7], .res_6_a), ([0xCB, 0xB8], .res_7_b), ([0xCB, 0xB9], .res_7_c),
     ([0xCB, 0xBA], .res_7_d), ([0xCB, 0xBB], .res_7_e), ([0xCB, 0xBC], .res_7_h),
     ([0xCB, 0xBD], .res_7_l), ([0xCB, 0xBE], .res_7_mhl), ([0xCB, 0xBF], .res_7_a),
     ([0xCB, 0xC0], .set_0_b)] = true := by decide

theorem test_decode_rows_7 : decodesAll
    [([0xCB, 0xC1], .set_0_c), ([0xCB, 0xC2], .set_0_d), ([0xCB, 0xC3], .set_0_e),
     ([0xCB, 0xC4], .set_0_h), ([0xCB, 0xC5], .set_0_l), ([0xCB, 0xC6], .set_0_mhl),
     ([0xCB, 0xC7], .set_0_a), ([0xCB, 0xC8], .set_1_b), ([0xCB, 0xC9], .set_1_c),
     ([0xCB, 0xCA], .set_1_d), ([0xCB, 0xCB], .set_1_e), ([0xCB, 0xCC], .set_1_h),
     ([0xCB, 0xCD], .set_1_l), ([0xCB, 0xCE], .set_1_mhl), ([0xCB, 0xCF], .set_1_a),
     ([0xCB, 0xD0], .set_2_b), ([0xCB, 0xD1], .set_2_c), ([0xCB, 0xD2], .set_2_d),
     ([0xCB, 0xD3], .set_2_e), ([0xCB, 0xD4], .set_2_h), ([0xCB, 0xD5], .set_2_l),
     ([0xCB, 0xD6], .set_2_mhl), ([0xCB, 0xD7], .set_2_a), ([0xCB, 0xD8], .set_3_b),
     ([0xCB, 0xD9], .set_3_c), ([0xCB, 0xDA], .set_3_d), ([0xCB, 0xDB], .set_3_e),
     ([0xCB, 0xDC], .set_3_h), ([0xCB, 0xDD], .set_3_l), ([0xCB, 0xDE], .set_3_mhl),
     ([0xCB, 0xDF], .set_3_a), ([0xCB, 0xE0], .set_4_b), ([0xCB, 0xE1], .set_4_c),
     ([0xCB, 0xE2], .set_4_d), ([0xCB, 0xE3], .set_4_e), ([0xCB, 0xE4], .set_4_h),
     ([0xCB, 0xE5], .set_4_l), ([0xCB, 0xE6], .set_4_mhl), ([0xCB, 0xE7], .set_4_a),
     ([0xCB, 0xE8], .set_5_b), ([0xCB, 0xE9], .set_5_c), ([0xCB, 0xEA], .set_5_d),
     ([0xCB, 0xEB], .set_5_e), ([0xCB, 0xEC], .set_5_h), ([0xCB, 0xED], .set_5_l),
     ([0xCB, 0xEE], .set_5_mhl), ([0xCB, 0xEF], .set_5_a), ([0xCB, 0xF0], .set_6_b),
     ([0xCB, 0xF1], .set_6_c), ([0xCB, 0xF2], .set_6_d), ([0xCB, 0xF3], .set_6_e),
     ([0xCB, 0xF4], .set_6_h), ([0xCB, 0xF5], .set_6_l), ([0xCB, 0xF6], .set_6_mhl),
     ([0xCB, 0xF7], .set_6_a), ([0xCB, 0xF8], .set_7_b), ([0xCB, 0xF9], .set_7_c),
     ([0xCB, 0xFA], .set_7_d), ([0xCB, 0xFB], .set_7_e), ([0xCB, 0xFC], .set_7_h),
     ([0xCB, 0xFD], .set_7_l), ([0xCB, 0xFE], .set_7_mhl), ([0xCB, 0xFF], .set_7_a)] = true := by decide

/-! ## One instruction: vectors of 95_test_vectors.md

Expected registers, cycles and bytes are the vectors'. `PC` is, where a vector does not give it, the
address after the instruction. -/

/-- The vectors' start: every register zero but `SP = 0xDFF0` and `PC = 0xC000`. -/
def cpu0 : Cpu := { Cpu.resetBoot with sp := 0xDFF0, pc := 0xC000 }

/-- Bytes put at consecutive addresses from `a`. -/
def put (a : Word) : List Byte → State → State
  | [], s => s
  | v :: vs, s => put (a + 1#16) vs (placeByte a v s)

/-- The state of a vector: no cartridge, `bytes` at `PC`, the cells given. -/
def start (cpu : Cpu) (bytes : List Byte) (cells : List (Word × Byte)) : State :=
  put cpu.pc bytes
    (cells.foldl (fun s c => placeByte c.1 c.2 s) { State.reset with cpu := cpu })

/-- One CPU step leaves these registers, returns `n` cycles, and these cells read so. -/
def gives (s : State) (cpu : Cpu) (n : Nat) (cells : List (Word × Byte)) : Bool :=
  match cpuStep s with
  | .next t => t.cpu == { cpu with cycle := n, spent := n } &&
      cells.all (fun c => busRead c.1 t == c.2)
  | _ => false

theorem test_add_a_b : gives
    (start { cpu0 with a := 0xFF, b := 0x01 } [0x80] [])
    { cpu0 with a := 0x00, b := 0x01, pc := 0xC001, f := 0xB0 } 1 [] = true := by decide

theorem test_adc_a_b : gives
    (start { cpu0 with a := 0xFF, b := 0x00, f := 0x10 } [0x88] [])
    { cpu0 with a := 0x00, b := 0x00, f := 0xB0, pc := 0xC001 } 1 [] = true := by decide

theorem test_sub_a_b : gives
    (start { cpu0 with a := 0x00, b := 0x01 } [0x90] [])
    { cpu0 with a := 0xFF, b := 0x01, pc := 0xC001, f := 0x70 } 1 [] = true := by decide

theorem test_sbc_a_b : gives
    (start { cpu0 with a := 0x00, b := 0xFF, f := 0x10 } [0x98] [])
    { cpu0 with a := 0x00, b := 0xFF, f := 0xF0, pc := 0xC001 } 1 [] = true := by decide

theorem test_cp_a_b : gives
    (start { cpu0 with a := 0x3C, b := 0x40 } [0xB8] [])
    { cpu0 with a := 0x3C, b := 0x40, pc := 0xC001, f := 0x50 } 1 [] = true := by decide

theorem test_pop_af : gives
    (start { cpu0 with sp := 0xD000 } [0xF1] [(0xD000, 0xFF), (0xD001, 0x12)])
    { cpu0 with sp := 0xD002, pc := 0xC001, a := 0x12, f := 0xF0 } 3 [] = true := by decide

theorem test_jr_e8 : gives
    (start cpu0 [0x18, 0x80] [])
    { cpu0 with pc := 0xBF82 } 3 [] = true := by decide

theorem test_jr_nz_e8 : gives
    (start { cpu0 with f := 0x80 } [0x20, 0xFE] [])
    { cpu0 with f := 0x80, pc := 0xC002 } 2 [] = true := by decide

theorem test_jr_nz_e8_2 : gives
    (start cpu0 [0x20, 0xFE] [])
    { cpu0 with pc := 0xC000 } 3 [] = true := by decide

theorem test_ld_l_hl : gives
    (start { cpu0 with h := 0xC1, l := 0x02 } [0x6E] [(0xC102, 0x99)])
    { cpu0 with h := 0xC1, l := 0x99, pc := 0xC001 } 2 [] = true := by decide

theorem test_ld_hl_h : gives
    (start { cpu0 with h := 0xC1, l := 0x23 } [0x74] [])
    { cpu0 with h := 0xC1, l := 0x23, pc := 0xC001 } 2 [(0xC123, 0xC1)] = true := by decide

theorem test_ld_hl_n8 : gives
    (start { cpu0 with h := 0xFF, l := 0x80 } [0x36, 0xA7] [])
    { cpu0 with h := 0xFF, l := 0x80, pc := 0xC002 } 3 [(0xFF80, 0xA7)] = true := by decide

theorem test_ld_a_a16 : gives
    (start cpu0 [0xFA, 0x34, 0xC2] [(0xC234, 0x5E)])
    { cpu0 with pc := 0xC003, a := 0x5E } 4 [] = true := by decide

theorem test_ld_a16_a : gives
    (start { cpu0 with a := 0x1F } [0xEA, 0xFF, 0xFF] [])
    { cpu0 with a := 0x1F, pc := 0xC003 } 4 [(0xFFFF, 0x1F)] = true := by decide

theorem test_ldh_c_a : gives
    (start { cpu0 with a := 0x81, c := 0x02 } [0xE2] [(0xFF01, 0x41)])
    { cpu0 with a := 0x81, c := 0x02, pc := 0xC001 } 2 [(0xFF02, 0x81)] = true := by decide

set_option maxRecDepth 20000 in
theorem test_dma_by_ldh : gives
    (start { cpu0 with a := 0xC1 } [0xE0, 0x46] [(0xC100, 0xAA), (0xC19F, 0xBB), (0xC1A0, 0xCC)])
    { cpu0 with a := 0xC1, pc := 0xC002 } 3 [(0xFF46, 0xC1), (0xFE00, 0xAA), (0xFE9F, 0xBB)] = true := by decide

theorem test_ld_a_hl : gives
    (start { cpu0 with h := 0xFF, l := 0xFF } [0x2A] [(0xFFFF, 0x15)])
    { cpu0 with h := 0x00, l := 0x00, pc := 0xC001, a := 0x15 } 2 [] = true := by decide

theorem test_ld_hl_a : gives
    (start { cpu0 with a := 0x9C, h := 0xC1, l := 0x00 } [0x32] [])
    { cpu0 with a := 0x9C, h := 0xC0, l := 0xFF, pc := 0xC001 } 2 [(0xC100, 0x9C)] = true := by decide

theorem test_ld_bc_n16 : gives
    (start cpu0 [0x01, 0x34, 0x12] [])
    { cpu0 with pc := 0xC003, b := 0x12, c := 0x34 } 3 [] = true := by decide

theorem test_ld_a16_sp : gives
    (start { cpu0 with sp := 0xBEEF } [0x08, 0x00, 0xC1] [])
    { cpu0 with sp := 0xBEEF, pc := 0xC003 } 5 [(0xC100, 0xEF), (0xC101, 0xBE)] = true := by decide

theorem test_ld_a16_sp_2 : gives
    (start { cpu0 with sp := 0x1234 } [0x08, 0xFF, 0xFF] [])
    { cpu0 with sp := 0x1234, pc := 0xC003 } 5 [(0xFFFF, 0x34), (0x0000, 0x00)] = true := by decide

theorem test_ld_hl_sp_e8 : gives
    (start { cpu0 with sp := 0x0001 } [0xF8, 0xFF] [])
    { cpu0 with sp := 0x0001, pc := 0xC002, h := 0x00, l := 0x00, f := 0x30 } 3 [] = true := by decide

theorem test_ld_hl_sp_e8_2 : gives
    (start { cpu0 with sp := 0xD080, f := 0xF0 } [0xF8, 0x80] [])
    { cpu0 with sp := 0xD080, f := 0x10, pc := 0xC002, h := 0xD0, l := 0x00 } 3 [] = true := by decide

theorem test_push_bc : gives
    (start { cpu0 with b := 0xAB, c := 0xCD } [0xC5] [])
    { cpu0 with b := 0xAB, c := 0xCD, pc := 0xC001, sp := 0xDFEE } 4 [(0xDFEF, 0xAB), (0xDFEE, 0xCD)] = true := by decide

theorem test_push_bc_2 : gives
    (start { cpu0 with b := 0xAB, c := 0xCD, sp := 0x0001 } [0xC5] [])
    { cpu0 with b := 0xAB, c := 0xCD, sp := 0xFFFF, pc := 0xC001 } 4 [(0xFFFF, 0xCD)] = true := by decide

theorem test_pop_hl : gives
    (start { cpu0 with sp := 0xFFFF } [0xE1] [(0xFFFF, 0x0B)])
    { cpu0 with sp := 0x0001, pc := 0xC001, h := 0x00, l := 0x0B } 3 [] = true := by decide

theorem test_add_a_hl : gives
    (start { cpu0 with a := 0x3A, h := 0xC1, l := 0x00 } [0x86] [(0xC100, 0xC6)])
    { cpu0 with a := 0x00, h := 0xC1, l := 0x00, pc := 0xC001, f := 0xB0 } 2 [] = true := by decide

theorem test_add_a_n8 : gives
    (start { cpu0 with a := 0x7F } [0xC6, 0x01] [])
    { cpu0 with a := 0x80, pc := 0xC002, f := 0x20 } 2 [] = true := by decide

theorem test_adc_a_n8 : gives
    (start { cpu0 with a := 0x00, f := 0x10 } [0xCE, 0x0F] [])
    { cpu0 with a := 0x10, f := 0x20, pc := 0xC002 } 2 [] = true := by decide

theorem test_sbc_a_hl : gives
    (start { cpu0 with a := 0x3B, f := 0x10, h := 0xC1, l := 0x00 } [0x9E] [(0xC100, 0x4F)])
    { cpu0 with a := 0xEB, f := 0x70, h := 0xC1, l := 0x00, pc := 0xC001 } 2 [] = true := by decide

theorem test_sbc_a_n8 : gives
    (start { cpu0 with a := 0x3B, f := 0x10 } [0xDE, 0x3A] [])
    { cpu0 with a := 0x00, f := 0xC0, pc := 0xC002 } 2 [] = true := by decide

theorem test_and_a_b : gives
    (start { cpu0 with a := 0x5A, b := 0x3F } [0xA0] [])
    { cpu0 with a := 0x1A, b := 0x3F, pc := 0xC001, f := 0x20 } 1 [] = true := by decide

theorem test_xor_a_a : gives
    (start { cpu0 with a := 0xFF, f := 0xF0 } [0xAF] [])
    { cpu0 with a := 0x00, f := 0x80, pc := 0xC001 } 1 [] = true := by decide

theorem test_or_a_c : gives
    (start { cpu0 with a := 0x00, c := 0x00, f := 0x70 } [0xB1] [])
    { cpu0 with a := 0x00, c := 0x00, f := 0x80, pc := 0xC001 } 1 [] = true := by decide

theorem test_cp_a_n8 : gives
    (start { cpu0 with a := 0x80 } [0xFE, 0x90] [])
    { cpu0 with a := 0x80, pc := 0xC002, f := 0x50 } 2 [] = true := by decide

theorem test_inc_a : gives
    (start { cpu0 with a := 0xFF, f := 0x10 } [0x3C] [])
    { cpu0 with a := 0x00, f := 0xB0, pc := 0xC001 } 1 [] = true := by decide

theorem test_inc_hl : gives
    (start { cpu0 with h := 0xC1, l := 0x00 } [0x34] [(0xC100, 0x4F)])
    { cpu0 with h := 0xC1, l := 0x00, pc := 0xC001, f := 0x20 } 3 [(0xC100, 0x50)] = true := by decide

theorem test_dec_b : gives
    (start { cpu0 with b := 0x01, f := 0x10 } [0x05] [])
    { cpu0 with b := 0x00, f := 0xD0, pc := 0xC001 } 1 [] = true := by decide

theorem test_dec_hl : gives
    (start { cpu0 with h := 0xC1, l := 0x00 } [0x35] [(0xC100, 0x00)])
    { cpu0 with h := 0xC1, l := 0x00, pc := 0xC001, f := 0x60 } 3 [(0xC100, 0xFF)] = true := by decide

theorem test_cpl : gives
    (start { cpu0 with a := 0x35, f := 0x90 } [0x2F] [])
    { cpu0 with a := 0xCA, f := 0xF0, pc := 0xC001 } 1 [] = true := by decide

theorem test_scf : gives
    (start { cpu0 with f := 0xE0 } [0x37] [])
    { cpu0 with f := 0x90, pc := 0xC001 } 1 [] = true := by decide

theorem test_ccf : gives
    (start { cpu0 with f := 0xF0 } [0x3F] [])
    { cpu0 with f := 0x80, pc := 0xC001 } 1 [] = true := by decide

theorem test_daa : gives
    (start { cpu0 with a := 0x9A } [0x27] [])
    { cpu0 with a := 0x00, pc := 0xC001, f := 0x90 } 1 [] = true := by decide

theorem test_daa_2 : gives
    (start { cpu0 with a := 0x0F, f := 0x60 } [0x27] [])
    { cpu0 with a := 0x09, f := 0x40, pc := 0xC001 } 1 [] = true := by decide

theorem test_add_hl_bc : gives
    (start { cpu0 with h := 0xFF, l := 0xFF, b := 0x00, c := 0x01 } [0x09] [])
    { cpu0 with h := 0x00, l := 0x00, b := 0x00, c := 0x01, pc := 0xC001, f := 0x30 } 2 [] = true := by decide

theorem test_add_hl_bc_2 : gives
    (start { cpu0 with h := 0x08, l := 0x00, b := 0xF8, c := 0x00 } [0x09] [])
    { cpu0 with h := 0x00, l := 0x00, b := 0xF8, c := 0x00, pc := 0xC001, f := 0x30 } 2 [] = true := by decide

theorem test_inc_bc : gives
    (start { cpu0 with b := 0xFF, c := 0xFF, f := 0xF0 } [0x03] [])
    { cpu0 with b := 0x00, c := 0x00, f := 0xF0, pc := 0xC001 } 2 [] = true := by decide

theorem test_dec_sp : gives
    (start { cpu0 with sp := 0x0000 } [0x3B] [])
    { cpu0 with sp := 0xFFFF, pc := 0xC001 } 2 [] = true := by decide

theorem test_add_sp_e8 : gives
    (start { cpu0 with sp := 0xD001 } [0xE8, 0xFF] [])
    { cpu0 with sp := 0xD000, pc := 0xC002, f := 0x30 } 4 [] = true := by decide

theorem test_add_sp_e8_2 : gives
    (start { cpu0 with sp := 0xD000 } [0xE8, 0x80] [])
    { cpu0 with sp := 0xCF80, pc := 0xC002, f := 0x00 } 4 [] = true := by decide

theorem test_rlca : gives
    (start { cpu0 with a := 0x00, f := 0xF0 } [0x07] [])
    { cpu0 with a := 0x00, f := 0x00, pc := 0xC001 } 1 [] = true := by decide

theorem test_rla : gives
    (start { cpu0 with a := 0x55, f := 0x10 } [0x17] [])
    { cpu0 with a := 0xAB, f := 0x00, pc := 0xC001 } 1 [] = true := by decide

theorem test_rra : gives
    (start { cpu0 with a := 0x00, f := 0x10 } [0x1F] [])
    { cpu0 with a := 0x80, f := 0x00, pc := 0xC001 } 1 [] = true := by decide

theorem test_rlc_a : gives
    (start { cpu0 with a := 0x80 } [0xCB, 0x07] [])
    { cpu0 with a := 0x01, pc := 0xC002, f := 0x10 } 2 [] = true := by decide

theorem test_rlc_hl : gives
    (start { cpu0 with h := 0xC1, l := 0x00 } [0xCB, 0x06] [(0xC100, 0x85)])
    { cpu0 with h := 0xC1, l := 0x00, pc := 0xC002, f := 0x10 } 4 [(0xC100, 0x0B)] = true := by decide

theorem test_rl_d : gives
    (start { cpu0 with d := 0x80 } [0xCB, 0x12] [])
    { cpu0 with d := 0x00, pc := 0xC002, f := 0x90 } 2 [] = true := by decide

theorem test_rr_e : gives
    (start { cpu0 with e := 0x01, f := 0x10 } [0xCB, 0x1B] [])
    { cpu0 with e := 0x80, f := 0x10, pc := 0xC002 } 2 [] = true := by decide

theorem test_sra_l : gives
    (start { cpu0 with l := 0x81 } [0xCB, 0x2D] [])
    { cpu0 with l := 0xC0, pc := 0xC002, f := 0x10 } 2 [] = true := by decide

theorem test_swap_a : gives
    (start { cpu0 with a := 0xF1, f := 0x10 } [0xCB, 0x37] [])
    { cpu0 with a := 0x1F, f := 0x00, pc := 0xC002 } 2 [] = true := by decide

theorem test_srl_b : gives
    (start { cpu0 with b := 0xFF } [0xCB, 0x38] [])
    { cpu0 with b := 0x7F, pc := 0xC002, f := 0x10 } 2 [] = true := by decide

theorem test_bit_7_h : gives
    (start { cpu0 with h := 0x80, f := 0x10 } [0xCB, 0x7C] [])
    { cpu0 with h := 0x80, f := 0x30, pc := 0xC002 } 2 [] = true := by decide

theorem test_bit_3_hl : gives
    (start { cpu0 with h := 0xC1, l := 0x00 } [0xCB, 0x5E] [(0xC100, 0x08)])
    { cpu0 with h := 0xC1, l := 0x00, pc := 0xC002, f := 0x20 } 3 [(0xC100, 0x08)] = true := by decide

theorem test_res_7_hl : gives
    (start { cpu0 with h := 0xC1, l := 0x00 } [0xCB, 0xBE] [(0xC100, 0xFF)])
    { cpu0 with h := 0xC1, l := 0x00, pc := 0xC002, f := 0x00 } 4 [(0xC100, 0x7F)] = true := by decide

theorem test_set_0_hl : gives
    (start { cpu0 with h := 0xFF, l := 0x0F } [0xCB, 0xC6] [(0xFF0F, 0x00)])
    { cpu0 with h := 0xFF, l := 0x0F, pc := 0xC002 } 4 [(0xFF0F, 0x01)] = true := by decide

theorem test_jp_a16 : gives
    (start cpu0 [0xC3, 0x50, 0x01] [])
    { cpu0 with pc := 0x0150 } 4 [] = true := by decide

theorem test_jp_nz_a16 : gives
    (start { cpu0 with f := 0x80 } [0xC2, 0x50, 0x01] [])
    { cpu0 with f := 0x80, pc := 0xC003 } 3 [] = true := by decide

theorem test_jp_z_a16 : gives
    (start { cpu0 with f := 0x80 } [0xCA, 0x50, 0x01] [])
    { cpu0 with f := 0x80, pc := 0x0150 } 4 [] = true := by decide

theorem test_jp_hl : gives
    (start { cpu0 with h := 0x12, l := 0x34 } [0xE9] [])
    { cpu0 with h := 0x12, l := 0x34, pc := 0x1234 } 1 [] = true := by decide

theorem test_jr_c_e8 : gives
    (start { cpu0 with f := 0x10 } [0x38, 0xFB] [])
    { cpu0 with f := 0x10, pc := 0xBFFD } 3 [] = true := by decide

theorem test_call_a16 : gives
    (start cpu0 [0xCD, 0x34, 0x12] [])
    { cpu0 with pc := 0x1234, sp := 0xDFEE } 6 [(0xDFEF, 0xC0), (0xDFEE, 0x03)] = true := by decide

theorem test_call_nz_a16 : gives
    (start { cpu0 with f := 0x80 } [0xC4, 0x34, 0x12] [])
    { cpu0 with f := 0x80, pc := 0xC003, sp := 0xDFF0 } 3 [] = true := by decide

theorem test_call_c_a16 : gives
    (start { cpu0 with f := 0x10 } [0xDC, 0x34, 0x12] [])
    { cpu0 with f := 0x10, pc := 0x1234, sp := 0xDFEE } 6 [(0xDFEF, 0xC0), (0xDFEE, 0x03)] = true := by decide

theorem test_ret_nz : gives
    (start { cpu0 with sp := 0xD000 } [0xC0] [(0xD000, 0x03), (0xD001, 0xC0)])
    { cpu0 with sp := 0xD002, pc := 0xC003 } 5 [] = true := by decide

theorem test_ret_z : gives
    (start { cpu0 with sp := 0xD000 } [0xC8] [(0xD000, 0x03), (0xD001, 0xC0)])
    { cpu0 with sp := 0xD000, pc := 0xC001 } 2 [] = true := by decide

theorem test_reti : gives
    (start { cpu0 with sp := 0xD000 } [0xD9] [(0xD000, 0x03), (0xD001, 0xC0)])
    { cpu0 with sp := 0xD002, pc := 0xC003, ime := true } 4 [] = true := by decide

theorem test_rst_38h : gives
    (start cpu0 [0xFF] [])
    { cpu0 with pc := 0x0038, sp := 0xDFEE } 4 [(0xDFEF, 0xC0), (0xDFEE, 0x01)] = true := by decide

theorem test_halt : gives
    (start cpu0 [0x76] [])
    { cpu0 with pc := 0xC001, halted := true } 0 [] = true := by decide

theorem test_halt_2 : gives
    (start cpu0 [0x76] [(0xFFFF, 0x01), (0xFF0F, 0x01)])
    { cpu0 with pc := 0xC001, halted := true, ime := false } 0 [] = true := by decide

theorem test_stop : gives
    (start cpu0 [0x10, 0x00] [])
    { cpu0 with pc := 0xC002 } 1 [] = true := by decide

theorem test_di : gives
    (start { cpu0 with ime := true } [0xF3] [])
    { cpu0 with ime := false, pc := 0xC001 } 1 [] = true := by decide

theorem test_ei : gives
    (start cpu0 [0xFB] [])
    { cpu0 with pc := 0xC001, ime := true } 1 [] = true := by decide

theorem test_invalid_ed : gives
    (start cpu0 [0xED, 0x44] [])
    { cpu0 with pc := 0xC001 } 1 [] = true := by decide
/-! ## The step, and placing an instruction in it (R248 to R255; logs 8 to 10) -/

/-- What holds of the next state of one machine update. -/
def after (s : State) (p : State → Bool) : Bool :=
  match step s with
  | .next t => p t
  | _ => false

/-- Bytes stored in the internal array. -/
def io (l : List (Nat × Byte)) (s : State) : State :=
  { s with mem := l.foldl (fun m c => Store.write m c.1 c.2) s.mem }

theorem test_table_word_two_bytes : decodeTableWord 16 0xCB37 = some .swap_a := by decide
theorem test_table_word_operand_bytes_absent :
    decodeTableWord 16 0xC300 = some (.jp_a16 0x0000) := by decide
theorem test_fetch_word_runs_at_reset :
    after (State.reset.withFetchWord 16 0x3E5A) (fun t =>
      t.cpu.a == 0x5A && t.cpu.pc == 0x0102 && t.cpu.cycle == 2) = true := by decide
/-- 2 cycles are 8 ticks for the timer and the PPU (R255). -/
theorem test_devices_follow_cycles :
    after (start cpu0 [0x3E, 0xFF] []) (fun t =>
      t.timer.divAcc == 8 && t.ppu.dot == 8 && t.launch.updates == 1) = true := by decide
/-- R250: V-blank before timer, its bit cleared, `PC` pushed, 5 cycles. -/
theorem test_dispatch_lowest_first :
    gives (io [(0xFFFF, 0x05), (0xFF0F, 0x05)] (start { cpu0 with ime := true, halted := true } [] []))
      { cpu0 with sp := 0xDFEE, pc := 0x0040 } 5
      [(0xFF0F, 0x04), (0xDFEF, 0xC0), (0xDFEE, 0x00)] = true := by decide
/-- R248: a halted step costs one cycle. -/
theorem test_halted_idles :
    gives (start { cpu0 with halted := true } [0x3C] []) { cpu0 with halted := true } 1 []
      = true := by decide
/-- R240: the overlay ends at `pc = 0x0100`. -/
theorem test_overlay_ends :
    after { State.reset with overlayActive := true } (fun t => !t.overlayActive) = true := by decide
/-- R261: a due host action happens before the update. -/
theorem test_host_event_due :
    after { State.reset with launch := { Launch.default with hostEvents := [(0, .press .a)] } }
      (fun t => t.held.a && busRead 0xFF0F t == 0x10) = true := by decide

/-! ## The parameters are arguments (R8, 93_implementation_defined.md U10) -/

/-- The launch arguments with parameters other than the defaults. -/
def otherParams : Params :=
  { Params.default with
    clock := 10, cycles := [(0x3E00, 7)], intCycles := 9
    vectors := { Vectors.default with joypad := 0x1234 }
    io := { IoMap.default with iflag := 0xFF10, ienable := 0xFF11 } }

/-- U10: the overlay without its boot program is refused; with it, it is accepted. -/
theorem test_overlay_needs_boot_rom :
    (Launch.default.withBoot true none matches .error .bootRomMissing) = true ∧
    (Launch.default.withBoot true (some (Vector.replicate 256 0x31)) matches .ok _) = true ∧
    Launch.default.withBoot false none = .ok Launch.default := ⟨rfl, rfl, rfl⟩
/-- R240, R267: a launch under the overlay begins at 0x0000 in the boot program. -/
theorem test_overlay_launch :
    (let s := hostReset { State.reset with
       cart := some blankCart, launch := { Launch.default with boot := some (Vector.replicate 256 0x31) } }
     (s.cpu.pc, s.overlayActive, busRead 0x00FF s, busRead 0x0100 s)) = (0x0000, true, 0x31, 0x00) := by
  decide
/-- `CYCLES` and `CLOCK` as given: 7 cycles for opcode 0x3E, counted modulo 10. -/
theorem test_cycles_parameter :
    after { (State.reset.withFetchWord 16 0x3E5A) with
        launch := { Launch.default with params := otherParams }, cpu := { Cpu.reset with cycle := 8 } }
      (fun t => t.cpu.a == 0x5A && t.cpu.spent == 7 && t.cpu.cycle == 5) = true := by decide
/-- A vector, the addresses of `IE` and `IF`, and `INT_CYCLES` as given. -/
theorem test_interrupt_parameters :
    after { io [(0xFF11, 0x10), (0xFF10, 0x10)] State.reset with
        launch := { Launch.default with params := otherParams }, cpu := { Cpu.reset with ime := true } }
      (fun t => t.cpu.pc == 0x1234 && t.cpu.spent == 9 && busRead 0xFF10 t == 0x00) = true := by decide
/-- `RESET_REGS` as given, `F` through its mask (R18). -/
theorem test_reset_pattern_parameter :
    (let p := { Params.default with
       resetRegs := { ResetRegs.default with a := 0x11, f := 0x8F, pc := 0x0150 } }
     let c := (launchMachine { Launch.default with params := p } none).cpu
     (c.a, c.f, c.pc, c.sp)) = (0x11, 0x80, 0x0150, 0xFFFE) := by decide

/-! ## Timer (50_timer.md) -/

/-- R198: 256 ticks make one DIV increment. -/
theorem test_div_increments :
    busRead 0xFF04 (timerUpdate 64 (io [(0xFF04, 0xFF)] State.reset)) = 0x00 := by decide
/-- R199: overflow reloads from TMA and requests interrupt 2. -/
theorem test_tima_overflow :
    (let t := timerUpdate 64 (io [(0xFF07, 0x07), (0xFF05, 0xFF), (0xFF06, 0xAB)] State.reset)
     (busRead 0xFF05 t, busRead 0xFF0F t, t.timer.timaAcc)) = (0xAB, 0x04, 0) := by decide
/-- R200: code 1 has a period of 16 ticks. -/
theorem test_tima_period_16 :
    (let t := timerUpdate 6 (io [(0xFF07, 0x05)] State.reset)
     (busRead 0xFF05 t, t.timer.timaAcc)) = (0x01, 8) := by decide

/-! ## PPU (51_ppu.md) -/

/-- R209: entering V-blank with STAT's V-blank select requests both interrupts. -/
theorem test_mode_vblank_requests :
    (let t := setMode .vblank (io [(0xFF41, 0x10), (0xFF45, 0xFF)] State.reset)
     (busRead 0xFF41 t, busRead 0xFF0F t)) = (0x11, 0x03) := by decide
/-- R221: signed addressing below the middle block. -/
theorem test_tile_row_address : tileRowAddr false 0x80 7 = 0x880E := by decide
/-- R213: one sprite on line 0. -/
theorem test_scan_selects_one :
    (oamScan { State.reset with oam := [(0, 0x10), (1, 0x08), (2, 0x05)] }).ppu.sprites
      = [{ y := 0x10, x := 0x08, tile := 0x05, attr := 0x00, fetched := false }] := by decide

/-! ## Bus, cartridge, host -/

/-- R59: the start pattern in SC emits SB. -/
theorem test_serial_hook :
    (busWrite 0xFF02 0x81 (io [(0xFF01, 0x48)] State.reset)).serialOut = [0x48] := by decide
/-- R60, 95_test_vectors.md: right and A held, directional group selected. -/
theorem test_joypad_read :
    (let t := pressButton .a (pressButton .right (busWrite 0xFF00 0x20 State.reset))
     (busRead 0xFF00 t, busRead 0xFF0F t)) = (0xEE, 0x10) := by decide
/-- R235: a zero bank number selects bank 1. -/
theorem test_bank_zero_is_one :
    ({ blankCart with kind := .mbc1, romBanks := 64 }.writeRom 0x2000 0xE0).bank1 = 1 := by decide
/-- R238: disabled cartridge RAM reads the sentinel. -/
theorem test_ram_disabled :
    { blankCart with kind := .mbc1, ramSize := 8192 }.readRam 0xA000 = 0xFF := by decide
/-- R229: an empty image fails to load. -/
theorem test_load_empty_fails : (loadRom [] State.reset).1 = false := by decide
/-- R244: a precondition fault of a component accessor, called outside its range. -/
theorem test_accessor_range :
    (match vramChecked 8192 State.reset with
     | .error (.precondition .vram) => true | _ => false) = true := by decide

/-! ## Witnesses: for each obligation with hypotheses, states and operands that meet them

Each is named after its obligation; where it has several clauses, one witness for each, at a boundary. -/

/-- A state in the middle of a run: memory, cartridge and PPU in use, bank and column at an edge. -/
def busy : State :=
  { State.reset with
    cpu := { Cpu.reset with pc := 0xC000, ime := true, cycle := 4194303 }
    mem := [(0xC000, 0x77), (0xFF07, 0x05), (0xFF40, 0x93), (0xFF44, 0x8F), (0xFFFF, 0x1F)]
    vram := [(0, 0x3C), (8191, 0x01)]
    oam := [(0, 0x10), (159, 0x80)]
    timer := { divAcc := 255, timaAcc := 15 }
    ppu := { Ppu.reset with
      mode := .transfer, dot := 254, lx := 159, discard := 7
      sprites := [{ y := 0x10, x := 0x08, tile := 1, attr := 0x80, fetched := true }]
      fifo := [{ color := 3, obj := true }, { color := 0, obj := false }]
      fetcher := { Fetcher.reset with kind := .obj, slot := 0 }
      fb := [(0, 1), (23039, 3)] }
    cart := some { blankCart with
      kind := .mbc1, romBanks := 128, ramSize := 32768, bank1 := 31, bank2 := 3, ramEn := true,
      mode := true, rom := [(0, 0x31), (2097151, 0x01)], ram := [(32767, 0x55)] } }

/-- The rotating-bank cartridge of `busy`. -/
def busyCart : Cart := busy.cart.getD blankCart

theorem witness_EncodeInvertsDecode_decodes :
    decode [0x3E, 0xFF, 0x76] = .ok (.ld_a_n8 0xFF, [0x76]) := by rfl
theorem witness_StepRunsDecodedInstruction : Quiet busy ∧
    decode [busRead busy.cpu.pc busy, busRead (busy.cpu.pc + 1#16) busy,
      busRead (busy.cpu.pc + 2#16) busy] = .ok (.ld_mhl_a, [0x00, 0x00]) :=
  ⟨⟨by decide, by decide, by decide, by decide⟩, by rfl⟩
/-- A quiet state under the overlay. -/
theorem witness_StepRunsDecodedInstruction_overlay :
    Quiet { busy with overlayActive := true } := ⟨by decide, by decide, by decide, by decide⟩

/-- Sources 4 alone pending, and 0 with 4. -/
theorem witness_CpuStepBranches_dispatch :
    (let s := io [(0xFF0F, 0x10)] busy
     (4 < 5 ∧ bitOf (busRead 0xFFFF s &&& busRead 0xFF0F s &&& 0x1F) 4 = true ∧
      ∀ j, j < 4 → bitOf (busRead 0xFFFF s &&& busRead 0xFF0F s &&& 0x1F) j = false) ∧
      s.cpu.ime = true) ∧
    (let s := io [(0xFF0F, 0xF1)] busy
     bitOf (busRead 0xFFFF s &&& busRead 0xFF0F s &&& 0x1F) 0 = true ∧ s.cpu.ime = true) := by
  decide
theorem witness_CpuStepBranches_wake :
    (let s := io [(0xFF0F, 0x10)] { busy with cpu := { busy.cpu with ime := false, halted := true } }
     busRead 0xFFFF s &&& busRead 0xFF0F s &&& 0x1F ≠ 0 ∧ s.cpu.ime = false ∧
     decode [busRead s.cpu.pc s, busRead (s.cpu.pc + 1) s, busRead (s.cpu.pc + 2) s] =
      .ok (.ld_mhl_a, [0x00, 0x00])) := ⟨by decide, rfl, rfl⟩
theorem witness_CpuStepBranches_idle :
    (let s := io [(0xFF0F, 0xE0)] { busy with cpu := { busy.cpu with halted := true } }
     busRead 0xFFFF s &&& busRead 0xFF0F s &&& 0x1F = 0 ∧ s.cpu.halted = true) := by decide
theorem witness_CpuStepBranches_run :
    busRead 0xFFFF busy &&& busRead 0xFF0F busy &&& 0x1F = 0 ∧ busy.cpu.halted = false := by decide
theorem witness_InterruptEntry : (0 < 5 ∧ 4 < 5) ∧
    (match dispatchInterrupt 4 busy with | .next t => t.cpu.pc == 0x0060 | _ => false) = true := by
  decide
/-- The parameters of `busy`, the defaults, are legal. -/
theorem busy_params_valid : busy.params.Valid := Params.default_valid

theorem busy_params_cycles : busy.params.DefaultCycles := ⟨⟨rfl, rfl⟩, rfl, rfl, rfl⟩

theorem witness_SetInterruptFlagOneBit : busy.params.Valid ∧
    busRead 0xFF0F (setInterruptFlag 4 true busy) = 0x10 ∧ (4 < 5 ∧ 7 < 8) ∧
    0xFF0E#16 ≠ busy.io.iflag := ⟨busy_params_valid, by decide⟩
theorem witness_StuckHaltStaysStuck :
    (let s := io [(0xFFFF, 0xE0), (0xFF0F, 0x1F)] { busy with cpu := { busy.cpu with halted := true } }
     s.params.Valid ∧ dueHostEvents s.launch = [] ∧ s.cpu.halted = true ∧
     busRead s.io.ienable s &&& 0x1F = 0 ∧ ∃ t, step s = .next t) :=
  ⟨busy_params_valid, rfl, rfl, by decide, _, rfl⟩
theorem witness_LoadAndStoreSteppingHl :
    (Instr.ld_a_mhld, -1#16) ∈ [(Instr.ld_a_mhli, 1#16), (Instr.ld_a_mhld, -1#16)] ∧
    (Instr.ld_mhli_a, 1#16) ∈ [(Instr.ld_mhli_a, 1#16), (Instr.ld_mhld_a, -1#16)] := by decide
theorem witness_PushAndPop : (StackPair.hl, Pair.hl) ∈
    [(StackPair.bc, Pair.bc), (StackPair.de, Pair.de), (StackPair.hl, Pair.hl)] := by decide
theorem witness_AddToAccumulator : AluOp.adc ∈ [AluOp.add, AluOp.adc] := by decide
theorem witness_SubtractAndCompare : AluOp.sbc ∈ [AluOp.sub, AluOp.sbc] := by decide
theorem witness_LogicOnAccumulator :
    AluOp.and ∈ [AluOp.and, AluOp.xor, AluOp.or] ∧ AluOp.or ∈ [AluOp.and, AluOp.xor, AluOp.or] := by
  decide
/-- After a subtraction, and after an addition. -/
theorem witness_DecimalAdjust :
    ({ busy.cpu with f := 0x70 } : Cpu).flagN = true ∧
    ({ busy.cpu with f := 0xB0 } : Cpu).flagN = false := by decide
theorem witness_RotateAccumulator : (Instr.rra, RotOp.rr) ∈
    [(Instr.rlca, RotOp.rlc), (Instr.rrca, RotOp.rrc), (Instr.rla, RotOp.rl),
      (Instr.rra, RotOp.rr)] := by decide
theorem witness_RotateOperand : RotOp.rr ∈ [RotOp.rlc, RotOp.rrc, RotOp.rl, RotOp.rr] := by decide
theorem witness_ShiftOperand : RotOp.srl ∈ [RotOp.sla, RotOp.sra, RotOp.swap, RotOp.srl] := by decide
theorem witness_ResetAndSetBit :
    (Instr.setOn, 0xC0, true) ∈ [(Instr.resOn, 0x80, false), (Instr.setOn, 0xC0, true)] := by simp
/-- Each condition holds in one state and fails in another. -/
theorem witness_conditions :
    (let clear := { busy with cpu := { busy.cpu with f := 0x00 } }
     let set := { busy with cpu := { busy.cpu with f := 0x90 } }
     (CondHolds .nz clear ∧ ¬ CondHolds .nz set) ∧ (CondHolds .z set ∧ ¬ CondHolds .z clear) ∧
     (CondHolds .nc clear ∧ ¬ CondHolds .nc set) ∧ (CondHolds .c set ∧ ¬ CondHolds .c clear)) := by
  simp only [CondHolds]
  decide
theorem witness_Jumps : CondHolds .c busy ∧ ¬ CondHolds .nz busy := by
  simp only [CondHolds]
  decide
theorem witness_Calls : CondHolds .z busy ∧ ¬ CondHolds .nc busy := by
  simp only [CondHolds]
  decide
theorem witness_Returns : CondHolds .z busy ∧ ¬ CondHolds .nz busy := by
  simp only [CondHolds]
  decide
theorem witness_NoOperationsAndImeWrites : (0xFD, Instr.invalid_fd) ∈ unassignedBytes ∧
    (Instr.ei, 0xFB#8, true) ∈ [(Instr.di, 0xF3#8, false), (Instr.ei, 0xFB#8, true)] := by decide
theorem witness_OnlyNamedInstructionsChange :
    (∃ t, exec .di busy = .next t ∧ t.cpu.ime ≠ busy.cpu.ime) ∧
    (∃ t, exec .halt busy = .next t ∧ t.cpu.halted ≠ busy.cpu.halted) :=
  ⟨⟨_, rfl, by decide⟩, ⟨_, rfl, by decide⟩⟩
theorem witness_CycleBounds : busy.params.DefaultCycles ∧ (∃ t, exec .halt busy = .next t ∧ t.cpu.spent = 0) ∧
    (∃ t, exec (.call_a16 0x1234) busy = .next t ∧ t.cpu.spent = 6) ∧
    (∃ t, cpuStep busy = .next t) := ⟨busy_params_cycles, ⟨_, rfl, rfl⟩, ⟨_, rfl, rfl⟩, ⟨_, rfl⟩⟩
theorem witness_DevicesWriteTheirRegistersOnly : busy.params.Valid ∧
    0xFF06#16 ∉ [busy.io.div, busy.io.tima, busy.io.iflag, busy.io.stat, busy.io.ly] :=
  ⟨busy_params_valid, by decide⟩
/-- A boot program. -/
def bootRom : BootRom := (Vector.replicate 256 0#8).set 255 0x42

/-- Both ends of each range, with and without a cartridge, the overlay's last byte and the next. -/
theorem witness_BusReadDecoder :
    busy.io.joyp.toNat = 0xFF00 ∧
    (State.reset.cart = none ∧ busy.cart = some busyCart ∧ busy.overlayActive = false ∧
      busy.launch.boot = none) ∧
    (let o := { busy with overlayActive := true, launch := { busy.launch with boot := some bootRom } }
     o.launch.boot = some bootRom ∧ busRead 0x00FF o = 0x42 ∧
     busRead 0x0100 o = busyCart.readRom 0x0100) ∧
    busRead 0x7FFF busy = 0x01 ∧ busRead 0x8000 busy = 0x3C ∧ busRead 0x9FFF busy = 0x01 ∧
    busRead 0xBFFF busy = 0x55 ∧ busRead 0xC000 busy = 0x77 ∧ busRead 0xFE00 busy = 0x10 ∧
    busRead 0xFE9F busy = 0x80 ∧ busRead 0xFFFF busy = 0x1F :=
  ⟨by decide, by decide, ⟨rfl, by decide⟩, by decide⟩
theorem witness_WriteThenRead :
    (0x8000 ≤ 0x9FFF ∧ 0xC000#16 ≠ busy.io.joyp) ∧
    (busyCart.ramSize ≠ 0 ∧ busyCart.ramEn = true) ∧
    (let off := { busyCart with ramEn := false }
     off.kind = .mbc1 ∧ off.ramEn = false) ∧ blankCart.ramSize = 0 := by
  decide
/-- An internal byte reaches itself alone; the last byte of VRAM does not reach the next address. -/
theorem witness_WriteFrame :
    ¬ storeReaches 0x9FFF busy 0xA000 ∧ ¬ storeReaches 0xC000 busy 0xC001 ∧
    ¬ storeReaches 0xFF46 busy 0xFF45 := by
  refine ⟨?_, ?_, ?_⟩
  · show ¬ (0xA000#16 = 0x9FFF#16); decide
  · show ¬ (0xC001#16 = 0xC000#16 ∨ 0xC000#16 = busy.io.dma ∧ regionOf 0xC001 = .oam); decide
  · show ¬ (0xFF45#16 = 0xFF46#16 ∨ 0xFF46#16 = busy.io.dma ∧ regionOf 0xFF45 = .oam); decide
theorem witness_OamDmaCopies : busy.params.Valid ∧ (0 < 160 ∧ 159 < 160 ∧ 160 ≤ 160) :=
  ⟨busy_params_valid, by decide⟩
/-- A held button whose group is selected, and one whose group is not. -/
theorem witness_SerialHookAndJoypadRead : busy.params.Valid ∧
    (let s := pressButton .a (pressButton .right (busWrite 0xFF00 0x20 State.reset))
     bitOf (busRead 0xFF00 s) 0 = false ∧ Button.right.bit = 0 ∧ s.held.has .right = true ∧
     bitOf (Store.read s.mem 0xFF00) 4 = false ∧ bitOf (Store.read s.mem 0xFF00) 5 = true) :=
  ⟨busy_params_valid, by decide⟩
theorem witness_MapperRegisterWrites : busyCart.kind = .mbc1 ∧ busyCart.bank1 ≠ 0 ∧
    (0x1FFF#16).toNat ≤ 0x1FFF ∧ 0x2000 ≤ (0x2000#16).toNat ∧ (0x3FFF#16).toNat ≤ 0x3FFF ∧
    0x4000 ≤ (0x4000#16).toNat ∧ (0x5FFF#16).toNat ≤ 0x5FFF ∧ 0x6000 ≤ (0x6000#16).toNat ∧
    (0x7FFF#16).toNat ≤ 0x7FFF := by decide
theorem witness_MapperAccesses : busyCart.kind = .mbc1 ∧ busyCart.mode = true ∧
    busyCart.ramSize ≠ 0 ∧ busyCart.ramEn = true ∧ blankCart.kind = .none ∧ blankCart.ramSize = 0 ∧
    busyCart.readRom 0x7FFF = 0x01 ∧ busyCart.readRam 0xBFFF = 0x55 := by decide
/-- An image of zeros whose length is a multiple of 16 KiB loads. -/
theorem zeros_load (n : Nat) (h : n ≠ 0) (hm : n % 16384 = 0) :
    (loadRom (List.replicate n 0#8) State.reset).1 = true := by
  have hb (i : Nat) : imageByte (List.replicate n 0#8) i = 0#8 := by
    by_cases hi : i < n <;> simp [imageByte, List.getD_eq_getElem?_getD, hi]
  simp [loadRom, cartOfImage, hb, h, hm, romBankBytes, cartKindOf, romBanksOf, ramSizeOf]

/-- A 32 KiB image of zeros loads; an empty one does not. -/
theorem witness_LoadRomReplacesOrFails :
    (loadRom (List.replicate 32768 0#8) State.reset).1 = true ∧ (loadRom [] State.reset).1 = false :=
  ⟨zeros_load 32768 (by decide) (by decide), by decide⟩
theorem witness_DividerCounts : busy.params.Valid ∧ 0xFF05#16 ≠ busy.io.div :=
  ⟨busy_params_valid, by decide⟩
theorem witness_CounterCounts : busy.params.Valid ∧ State.reset.params.Valid ∧
    bitOf (busRead busy.io.tac busy) 2 = true ∧
    bitOf (busRead State.reset.io.tac State.reset) 2 = false :=
  ⟨busy_params_valid, Params.default_valid, by decide⟩
theorem witness_TimerInvariantAfterEveryStep : busy.params.Valid ∧ ∃ t, step busy = .next t :=
  ⟨busy_params_valid, _, rfl⟩
theorem witness_ModeChangeSetsStat : busy.params.Valid ∧
    0xFF44#16 ≠ busy.io.stat ∧ 0xFF44#16 ≠ busy.io.iflag ∧ (3 ≤ 7 ∧ 7 < 8) :=
  ⟨busy_params_valid, by decide⟩
theorem witness_LineEnds : (busy.params.Valid ∧ State.reset.params.Valid) ∧
    busRead busy.io.ly busy = 143 ∧ busRead busy.io.ly (io [(0xFF44, 153)] busy) = 153 ∧
    busRead State.reset.io.ly State.reset = 0 :=
  ⟨⟨busy_params_valid, Params.default_valid⟩, by decide⟩
theorem witness_VblankLineLasts456Ticks :
    (let s := { busy with ppu := { busy.ppu with mode := .vblank, dot := 0 } }
     s.params.Valid ∧ s.ppu.mode = .vblank ∧ s.ppu.dot = 0 ∧ busRead s.io.ly s ≠ 153 ∧
     busRead s.io.ly (io [(0xFF44, 153)] s) = 153 ∧ 455 < 456) :=
  ⟨busy_params_valid, rfl, rfl, by decide, by decide, by decide⟩
theorem witness_OamScanSelects : (let s := io [(0xFF44, 0x00)] busy
    0 < (Store.read s.oam 1).toNat + 1 ∧ (Store.read s.oam 0).toNat ≤ 0 + 16) := by decide
theorem witness_TileRowAddressInVram : (0x07#8).toNat < 8 ∧ (0x00#8).toNat < 8 := by decide
theorem witness_ModeThreeTickPopsOnePixel : busy.ppu.lx < 160 ∧ State.reset.ppu.lx < 160 := by decide
/-- An owned pixel, a pixel outside the sprite, a nonzero pixel under a behind-background sprite. -/
theorem witness_SpriteMergeFrame :
    busy.ppu.fifo[0]? = some { color := 3, obj := true } ∧ 0 + 0 + 8 < (0x09#8).toNat ∧
    bitOf 0x80 7 = true ∧ (3 : BitVec 2) ≠ 0 := by decide
theorem witness_ButtonPressAndRelease :
    (pressButton .a busy).held.has .a = true ∧ busy.held.has .a = false := by decide
theorem witness_ResetProcedure : busy.launch.bootOverlay = false ∧ busy.cart = some busyCart ∧
    State.reset.cart = none := by decide

theorem busy_memoryInv : MemoryInv busy where
  mem := by decide
  memRange := by decide
  vram := by decide
  vramRange := by decide
  oam := by decide
  oamRange := by decide
  frame := by decide
  frameRange := by decide
  rom := by
    intro c h
    have hc : c = busyCart := Option.some.inj (h.symm.trans rfl)
    subst hc
    decide
  ram := by
    intro c h
    have hc : c = busyCart := Option.some.inj (h.symm.trans rfl)
    subst hc
    decide
  initMem := by decide
  initMemRange := by decide
  initVram := by decide
  initOam := by decide

theorem busy_mapperInv : MapperInv busy where
  bank1 := by
    intro c h
    have hc : c = busyCart := Option.some.inj (h.symm.trans rfl)
    subst hc
    decide
  banks := by
    intro c h
    have hc : c = busyCart := Option.some.inj (h.symm.trans rfl)
    subst hc
    exact ⟨0x06, rfl⟩
  ramSize := by
    intro c h
    have hc : c = busyCart := Option.some.inj (h.symm.trans rfl)
    subst hc
    exact ⟨0x03, rfl⟩
  overlay := by decide

/-- The overlay clause where it has something to say: an active overlay with its boot program. -/
theorem overlay_mapperInv :
    MapperInv { busy with overlayActive := true, launch := { busy.launch with boot := some bootRom } } where
  bank1 := busy_mapperInv.bank1
  banks := busy_mapperInv.banks
  ramSize := busy_mapperInv.ramSize
  overlay := fun _ => rfl

theorem witness_StepKeepsMemoryCanonical : MemoryInv busy ∧ ∃ t, step busy = .next t :=
  ⟨busy_memoryInv, _, rfl⟩
theorem witness_StepKeepsCpuAndMapper : CpuInv busy ∧ MapperInv busy ∧ ∃ t, step busy = .next t :=
  ⟨⟨by decide, by decide⟩, busy_mapperInv, _, rfl⟩
theorem witness_StepKeepsPpuInvariant : PpuInv busy ∧ ∃ t, step busy = .next t :=
  ⟨⟨by decide, by decide, by decide, by decide, by decide, by decide, by decide⟩, _, rfl⟩

end Sys2Proof.Tests
end

section
/-! PROOFS. The cycle counter (R27, R85, R273): every instruction, and every CPU step, ends by retiring
its cycles from a state whose counter and parameters are still those it started with. -/

namespace Sys2Proof.Machine

/-! ## States with the same clock -/

/-- `u` has the cycle counter and the launch arguments, `CLOCK` among them, of `s`. -/
def SameClock (s u : State) : Prop := u.cpu.cycle = s.cpu.cycle ∧ u.launch = s.launch

@[simp] theorem sameClock_refl (s : State) : SameClock s s := ⟨rfl, rfl⟩

@[simp] theorem sameClock_withCpu (s u : State) (c : Cpu) :
    SameClock s (u.withCpu c) ↔ c.cycle = s.cpu.cycle ∧ u.launch = s.launch := Iff.rfl

@[simp] theorem sameClock_setReg (s u : State) (r : Reg8) (v : Byte) :
    SameClock s (u.setReg r v) ↔ SameClock s u := by simp [State.setReg, SameClock]

@[simp] theorem sameClock_setPair (s u : State) (p : Pair) (v : Word) :
    SameClock s (u.setPair p v) ↔ SameClock s u := by simp [State.setPair, SameClock]

@[simp] theorem sameClock_setFlags (s u : State) (z n h c : Bool) :
    SameClock s (u.setFlags z n h c) ↔ SameClock s u := Iff.rfl

@[simp] theorem sameClock_setAluFlags (s u : State) (r : AluOut) :
    SameClock s (u.setAluFlags r) ↔ SameClock s u := Iff.rfl

@[simp] theorem sameClock_busWrite (s u : State) (a : Word) (v : Byte) :
    SameClock s (busWrite a v u) ↔ SameClock s u := by simp [SameClock]

@[simp] theorem sameClock_setOperand (s u : State) (o : Operand8) (v : Byte) :
    SameClock s (u.setOperand o v) ↔ SameClock s u := by
  cases o with
  | reg r => exact sameClock_setReg s u r v
  | mhl => exact sameClock_busWrite s u _ v

@[simp] theorem sameClock_push16 (s u : State) (v : Word) :
    SameClock s (push16 v u) ↔ SameClock s u := by simp [SameClock]

@[simp] theorem popState_cycle (s : State) : (popState s).cpu.cycle = s.cpu.cycle := rfl
@[simp] theorem popState_launch (s : State) : (popState s).launch = s.launch := rfl

@[simp] theorem sameClock_popState (s u : State) : SameClock s (popState u) ↔ SameClock s u := Iff.rfl

theorem sameClock_wake (s : State) : SameClock s (wake s) := by
  unfold wake
  split <;> simp

/-! ## Counting the cycles returned -/

/-- `r` answers a next state that returns `n` cycles and has counted them modulo `CLOCK` (R13, R27). -/
def CountsCycles (s : State) (n : Nat) (r : Result) : Prop :=
  ∃ t, r = .next t ∧ t.cpu.spent = n ∧ t.cpu.cycle = (s.cpu.cycle + n) % s.params.clock

theorem countsCycles_retire {s u : State} (h : SameClock s u) (c : Cpu) (n : Nat)
    (hc : c.cycle = u.cpu.cycle) :
    CountsCycles s n (.next (u.withCpu (c.retire u.params.clock n))) := by
  obtain ⟨hcycle, hlaunch⟩ := h
  exact ⟨_, rfl, rfl, by simp [hc, hcycle, hlaunch]⟩

theorem SameClock.countsCycles {s u : State} (h : SameClock s u) {n : Nat} {r : Result}
    (hr : CountsCycles u n r) : CountsCycles s n r := by
  obtain ⟨hcycle, hlaunch⟩ := h
  simpa [CountsCycles, hcycle, hlaunch] using hr

theorem CountsCycles.of_next {s t : State} {n : Nat} {r : Result} (h : CountsCycles s n r)
    (hr : r = .next t) : t.cpu.spent = n ∧ t.cpu.cycle = (s.cpu.cycle + n) % s.params.clock := by
  obtain ⟨t', ht', hspent, hcycle⟩ := h
  cases ht'.symm.trans hr
  exact ⟨hspent, hcycle⟩

/-! ## The instructions -/

/-- With the default cycle parameters `n` cycles are at most 6, and 0 exactly for `HALT`. -/
def CycleBound (i : Instr) (s : State) (n : Nat) : Prop :=
  s.params.DefaultCycles → n ≤ 6 ∧ (n = 0 ↔ i = .halt)

theorem cycleBound_of_table {i : Instr} {s : State} {n k : Nat} (hk : 1 ≤ k ∧ k ≤ 6) (hi : i ≠ .halt)
    (hn : s.params.DefaultCycles → n = k) : CycleBound i s n := fun h =>
  ⟨hn h ▸ hk.2, fun h0 => by have := hn h; omega, fun he => absurd he hi⟩

theorem cycleBound_cyclesOf {i : Instr} {s : State} {k : Nat} (hk : 1 ≤ k ∧ k ≤ 6) (hi : i ≠ .halt) :
    CycleBound i s (s.cyclesOf i k) :=
  cycleBound_of_table hk hi fun h => State.cyclesOf_default h.table.1 i k

theorem cycleBound_cyclesNotTakenOf {i : Instr} {s : State} {k : Nat} (hk : 1 ≤ k ∧ k ≤ 6)
    (hi : i ≠ .halt) : CycleBound i s (s.cyclesNotTakenOf i k) :=
  cycleBound_of_table hk hi fun h => State.cyclesNotTakenOf_default h.table.2 i k

theorem cycleBound_invalidCycles {i : Instr} {s : State} (hi : i ≠ .halt) :
    CycleBound i s s.params.invalidCycles :=
  cycleBound_of_table (k := Config.invalidCycles) (by decide) hi fun h => h.invalid

theorem cycleBound_halt (s : State) : CycleBound .halt s (s.cyclesOf .halt 0) := fun h => by
  simp [State.cyclesOf_default h.table.1]

/-- `exec i s` counts the cycles it returns, and their number is within the bounds for `i`. -/
def RunsInCycles (i : Instr) (s : State) : Prop :=
  ∃ n, CountsCycles s n (exec i s) ∧ CycleBound i s n

/-- An instruction that completes in one way. -/
theorem runsInCycles_of_retire {i : Instr} {s u : State} {pc : Word} {n : Nat}
    (he : exec i s = .next (u.withCpu ((u.cpu.withPc pc).retire u.params.clock n)))
    (hu : SameClock s u) (hn : CycleBound i s n) : RunsInCycles i s :=
  ⟨n, he ▸ countsCycles_retire hu _ n rfl, hn⟩

/-- A conditional transfer of control: taken, it completes from `u`; not taken, from `s` itself. -/
theorem runsInCycles_of_cond {i : Instr} {s u : State} {cc : Cond} {target next : Word} {n m : Nat}
    (he : exec i s =
      if s.cpu.cond cc then .next (u.withCpu ((u.cpu.withPc target).retire u.params.clock n))
      else .next (s.withCpu ((s.cpu.withPc next).retire s.params.clock m)))
    (hu : SameClock s u) (hn : CycleBound i s n) (hm : CycleBound i s m) : RunsInCycles i s := by
  by_cases hc : s.cpu.cond cc = true
  · exact runsInCycles_of_retire (he.trans (if_pos hc)) hu hn
  · exact runsInCycles_of_retire (he.trans (if_neg hc)) (sameClock_refl s) hm

/-- Every instruction counts its cycles: `HALT`, the unassigned bytes and the conditional transfers
apart, all complete in one way in the cycles of their row of R85. -/
theorem exec_runsInCycles (i : Instr) (s : State) : RunsInCycles i s := by
  cases i
  case halt => exact runsInCycles_of_retire rfl (by simp) (cycleBound_halt s)
  case invalid_d3 | invalid_db | invalid_dd | invalid_e3 | invalid_e4 | invalid_eb | invalid_ec
      | invalid_ed | invalid_f4 | invalid_fc | invalid_fd =>
    exact runsInCycles_of_retire rfl (sameClock_refl s) (cycleBound_invalidCycles nofun)
  case jr_nz_e8 | jr_z_e8 | jr_nc_e8 | jr_c_e8 | jp_nz_a16 | jp_z_a16 | jp_nc_a16 | jp_c_a16
      | call_nz_a16 | call_z_a16 | call_nc_a16 | call_c_a16 | ret_nz | ret_z | ret_nc | ret_c =>
    exact runsInCycles_of_cond rfl (by simp) (cycleBound_cyclesOf (by decide) nofun)
      (cycleBound_cyclesNotTakenOf (by decide) nofun)
  all_goals exact runsInCycles_of_retire rfl (by simp) (cycleBound_cyclesOf (by decide) nofun)

/-! ## The CPU step -/

theorem dispatchInterrupt_countsCycles (i : Nat) (s : State) :
    CountsCycles s s.params.intCycles (dispatchInterrupt i s) :=
  countsCycles_retire (by simp) _ _ rfl

theorem cpuStep_countsCycles (s : State) :
    ∃ n, CountsCycles s n (cpuStep s) ∧ (s.params.DefaultCycles → n ≤ 6) := by
  have hw := sameClock_wake s
  have hparams : (wake s).params = s.params := by simp [hw.2]
  simp only [cpuStep]
  split
  · refine ⟨_, hw.countsCycles (dispatchInterrupt_countsCycles _ _), fun h => ?_⟩
    rw [hparams, h.int]
    decide
  · split
    · refine ⟨_, countsCycles_retire hw _ _ rfl, fun h => ?_⟩
      rw [hparams, h.idle]
      decide
    · obtain ⟨n, hcount, hbound⟩ := exec_runsInCycles (fetch (wake s)) (wake s)
      exact ⟨n, hw.countsCycles hcount, fun h => (hbound (hparams ▸ h)).1⟩

/-- Settles O35: each instruction, and each CPU step, counts the number of cycles it returns, and that
number is a row of R85, `INVALID_CYCLES`, `INT_CYCLES` or `HALT_IDLE_CYCLES`. -/
theorem cycleBounds : Obligations.CycleBounds := by
  refine ⟨fun i s t ht => ?_, fun s t ht => ?_⟩
  · obtain ⟨n, hcount, hbound⟩ := exec_runsInCycles i s
    obtain ⟨rfl, hcycle⟩ := hcount.of_next ht
    exact ⟨hcycle, hbound⟩
  · obtain ⟨n, hcount, hbound⟩ := cpuStep_countsCycles s
    obtain ⟨rfl, hcycle⟩ := hcount.of_next ht
    exact ⟨hcycle, hbound⟩

end Sys2Proof.Machine
end

section
/-! PROOFS. What a step of the machine is made of, and the invariants every step keeps (R18, R25 to R30,
R235, R240, R244, R247, R255). The CPU acts by changes of its own registers and by bus writes, the
devices by changes of their own state and by bus writes; what these keep, a step keeps. -/

namespace Sys2Proof.Machine

/-! ## What the CPU does -/

/-- `t` comes from `s` by changes of the CPU that leave `F` alone or clear its bits 3:0 (R18), and by
bus writes (R54). -/
inductive CpuActs (s : State) : State → Prop
  | refl : CpuActs s s
  | setCpu {t : State} {c : Cpu} (h : CpuActs s t) (hf : c.f = t.cpu.f ∨ c.f &&& 0x0F#8 = 0#8) :
      CpuActs s (t.withCpu c)
  | store {t : State} (a : Word) (v : Byte) (h : CpuActs s t) : CpuActs s (busWrite a v t)

namespace CpuActs

variable {s t u : State}

theorem trans (h : CpuActs s t) (h' : CpuActs t u) : CpuActs s u := by
  induction h' with
  | refl => exact h
  | setCpu _ hf ih => exact ih.setCpu hf
  | store a v _ ih => exact ih.store a v

@[simp] theorem setReg (h : CpuActs s t) (r : Reg8) (v : Byte) : CpuActs s (t.setReg r v) :=
  h.setCpu (.inl (Cpu.setReg_f _ r v))

@[simp] theorem setPair (h : CpuActs s t) (p : Pair) (v : Word) : CpuActs s (t.setPair p v) :=
  h.setCpu (.inl (Cpu.setPair_f _ p v))

@[simp] theorem setFlags (h : CpuActs s t) (z n hc c : Bool) : CpuActs s (t.setFlags z n hc c) :=
  h.setCpu (.inr (Cpu.setFlags_low _ z n hc c))

@[simp] theorem setAluFlags (h : CpuActs s t) (r : AluOut) : CpuActs s (t.setAluFlags r) :=
  h.setFlags _ _ _ _

@[simp] theorem setOperand (h : CpuActs s t) (o : Operand8) (v : Byte) :
    CpuActs s (t.setOperand o v) := by
  cases o with
  | reg r => exact h.setReg r v
  | mhl => exact h.store _ v

@[simp] theorem setStackPair (h : CpuActs s t) (q : StackPair) (v : Word) :
    CpuActs s (t.withCpu (t.cpu.setStackPair q v)) := by
  refine h.setCpu ?_
  cases q with
  | af => exact .inr (by simp [Cpu.setStackPair, BitVec.and_assoc])
  | _ => exact .inl rfl

@[simp] theorem withIme (h : CpuActs s t) (v : Bool) : CpuActs s (t.withCpu (t.cpu.withIme v)) :=
  h.setCpu (.inl rfl)

@[simp] theorem withHalted (h : CpuActs s t) (v : Bool) :
    CpuActs s (t.withCpu (t.cpu.withHalted v)) := h.setCpu (.inl rfl)

@[simp] theorem popState (h : CpuActs s t) : CpuActs s (popState t) := h.setCpu (.inl rfl)

@[simp] theorem push16 (h : CpuActs s t) (v : Word) : CpuActs s (push16 v t) := by
  rw [push16_eq]
  exact ((h.store _ _).store _ _).setCpu (.inl (by simp))

theorem retire (h : CpuActs s t) (pc : Word) (k n : Nat) :
    CpuActs s (t.withCpu ((t.cpu.withPc pc).retire k n)) := h.setCpu (.inl rfl)

/-- No other component of the machine changes (R247). -/
theorem devices (h : CpuActs s t) : t.timer = s.timer ∧ t.ppu = s.ppu ∧ t.held = s.held ∧
    t.overlayActive = s.overlayActive ∧ t.launch = s.launch := by
  induction h with
  | refl => simp
  | setCpu _ _ ih => exact ih
  | store a v _ ih => simpa using ih

theorem launch (h : CpuActs s t) : t.launch = s.launch := by
  obtain ⟨-, -, -, -, hlaunch⟩ := h.devices
  exact hlaunch

theorem flags (h : CpuActs s t) (hs : s.cpu.f &&& 0x0F#8 = 0#8) : t.cpu.f &&& 0x0F#8 = 0#8 := by
  induction h with
  | refl => exact hs
  | setCpu _ hf ih => exact hf.elim (fun hf => (congrArg (· &&& 0x0F#8) hf).trans ih) id
  | store a v _ ih => simpa using ih

end CpuActs

/-! ## `IME` and `halted` -/

@[simp] theorem keepsControl_refl (s : State) : KeepsControl s s := ⟨rfl, rfl⟩

@[simp] theorem keepsControl_withCpu (s u : State) (c : Cpu) :
    KeepsControl s (u.withCpu c) ↔ c.ime = s.cpu.ime ∧ c.halted = s.cpu.halted := Iff.rfl

@[simp] theorem keepsControl_setReg (s u : State) (r : Reg8) (v : Byte) :
    KeepsControl s (u.setReg r v) ↔ KeepsControl s u := by simp [State.setReg, KeepsControl]

@[simp] theorem keepsControl_setPair (s u : State) (p : Pair) (v : Word) :
    KeepsControl s (u.setPair p v) ↔ KeepsControl s u := by simp [State.setPair, KeepsControl]

@[simp] theorem keepsControl_setFlags (s u : State) (z n h c : Bool) :
    KeepsControl s (u.setFlags z n h c) ↔ KeepsControl s u := Iff.rfl

@[simp] theorem keepsControl_setAluFlags (s u : State) (r : AluOut) :
    KeepsControl s (u.setAluFlags r) ↔ KeepsControl s u := Iff.rfl

@[simp] theorem keepsControl_busWrite (s u : State) (a : Word) (v : Byte) :
    KeepsControl s (busWrite a v u) ↔ KeepsControl s u := by simp [KeepsControl]

@[simp] theorem keepsControl_setOperand (s u : State) (o : Operand8) (v : Byte) :
    KeepsControl s (u.setOperand o v) ↔ KeepsControl s u := by
  cases o with
  | reg r => exact keepsControl_setReg s u r v
  | mhl => exact keepsControl_busWrite s u _ v

@[simp] theorem keepsControl_popState (s u : State) :
    KeepsControl s (popState u) ↔ KeepsControl s u := Iff.rfl

@[simp] theorem popState_ime (s : State) : (popState s).cpu.ime = s.cpu.ime := rfl
@[simp] theorem popState_halted (s : State) : (popState s).cpu.halted = s.cpu.halted := rfl

@[simp] theorem keepsControl_push16 (s u : State) (v : Word) :
    KeepsControl s (push16 v u) ↔ KeepsControl s u := by simp [KeepsControl]

/-- `IME` and `halted` as instruction `i` sets them, the rest of the CPU as it is: `EI`, `DI`, `RETI` set
`IME` and `HALT` sets `halted` (R189, R191, R193, R194). -/
def Cpu.control (c : Cpu) : Instr → Cpu
  | .ei | .reti => c.withIme true
  | .di => c.withIme false
  | .halt => c.withHalted true
  | _ => c

theorem Cpu.control_ime {c : Cpu} {i : Instr} (h : (c.control i).ime ≠ c.ime) :
    i = .ei ∨ i = .di ∨ i = .reti := by
  unfold Cpu.control at h
  split at h <;> simp_all

theorem Cpu.control_halted {c : Cpu} {i : Instr} (h : (c.control i).halted ≠ c.halted) :
    i = .halt := by
  unfold Cpu.control at h
  split at h <;> simp_all

/-! ## The instructions -/

/-- `exec i s` completes from a state that the CPU's actions reach, and there `IME` and `halted` are what
`i` itself sets. -/
def CompletesFrom (i : Instr) (s : State) : Prop :=
  ∃ (u : State) (pc : Word) (n : Nat),
    exec i s = .next (u.withCpu ((u.cpu.withPc pc).retire u.params.clock n)) ∧
    CpuActs s u ∧ KeepsControl (s.withCpu (s.cpu.control i)) u

theorem completesFrom_of_retire {i : Instr} {s u : State} {pc : Word} {n : Nat}
    (he : exec i s = .next (u.withCpu ((u.cpu.withPc pc).retire u.params.clock n)))
    (hu : CpuActs s u) (hc : KeepsControl (s.withCpu (s.cpu.control i)) u) : CompletesFrom i s :=
  ⟨u, pc, n, he, hu, hc⟩

/-- A conditional transfer of control: taken, it completes from `u`; not taken, from `s` itself. -/
theorem completesFrom_of_cond {i : Instr} {s u : State} {cc : Cond} {target next : Word} {n m : Nat}
    (he : exec i s =
      if s.cpu.cond cc then .next (u.withCpu ((u.cpu.withPc target).retire u.params.clock n))
      else .next (s.withCpu ((s.cpu.withPc next).retire s.params.clock m)))
    (hi : s.cpu.control i = s.cpu) (hu : CpuActs s u) (hc : KeepsControl s u) :
    CompletesFrom i s := by
  by_cases h : s.cpu.cond cc = true
  · exact completesFrom_of_retire (he.trans (if_pos h)) hu (by rwa [hi])
  · exact completesFrom_of_retire (he.trans (if_neg h)) .refl (by rw [hi]; exact ⟨rfl, rfl⟩)

/-- Every instruction completes from such a state: the conditional transfers in two ways, all others in
one. -/
theorem exec_completesFrom (i : Instr) (s : State) : CompletesFrom i s := by
  cases i
  case jr_nz_e8 | jr_z_e8 | jr_nc_e8 | jr_c_e8 | jp_nz_a16 | jp_z_a16 | jp_nc_a16 | jp_c_a16
      | call_nz_a16 | call_z_a16 | call_nc_a16 | call_c_a16 | ret_nz | ret_z | ret_nc | ret_c =>
    exact completesFrom_of_cond rfl rfl (by simp [CpuActs.refl]) (by simp)
  all_goals
    refine completesFrom_of_retire rfl ?_ ?_
    · simp [CpuActs.refl, CpuActs.store]
    · simp [Cpu.control]

theorem exec_acts {i : Instr} {s t : State} (h : exec i s = .next t) :
    CpuActs s t ∧ KeepsControl (s.withCpu (s.cpu.control i)) t := by
  obtain ⟨u, pc, n, he, hu, hc⟩ := exec_completesFrom i s
  cases he.symm.trans h
  exact ⟨hu.retire pc _ n, hc⟩

/-- Settles O34: the CPU's actions leave the devices alone, and `IME` and `halted` are at the end what
the instruction itself sets. -/
theorem onlyNamedInstructionsChange : Obligations.OnlyNamedInstructionsChange := by
  intro i s t h
  obtain ⟨hacts, hime, hhalted⟩ := exec_acts h
  refine ⟨fun hne => Cpu.control_ime (c := s.cpu) ?_, fun hne => Cpu.control_halted (c := s.cpu) ?_,
    hacts.devices⟩
  · exact hime ▸ hne
  · exact hhalted ▸ hne

/-! ## The CPU step -/

theorem wake_acts (s : State) : CpuActs s (wake s) := by
  unfold wake
  split
  · exact CpuActs.refl.withHalted false
  · exact .refl

theorem dispatchInterrupt_acts {i : Nat} {s t : State} (h : dispatchInterrupt i s = .next t) :
    CpuActs s t := by
  cases h
  exact (((CpuActs.refl.store _ _).withIme false).push16 _).retire _ _ _

theorem cpuStep_acts {s t : State} (h : cpuStep s = .next t) : CpuActs s t := by
  refine (wake_acts s).trans ?_
  simp only [cpuStep] at h
  split at h
  · exact dispatchInterrupt_acts h
  · split at h
    · cases h
      exact .setCpu .refl (.inl rfl)
    · exact (exec_acts h).1

/-! ## What the devices do -/

/-- `t` comes from `s` by changes of the timer, by changes of the PPU whose frame buffer is as before or
has one pixel more inside its range (R227), and by bus writes (R54). -/
inductive DevicesAct (s : State) : State → Prop
  | refl : DevicesAct s s
  | setTimer {t : State} (tm : Timer) (h : DevicesAct s t) : DevicesAct s { t with timer := tm }
  | setPpu {t : State} {p : Ppu} (h : DevicesAct s t) (hfb : p.fb = t.ppu.fb) :
      DevicesAct s (t.withPpu p)
  | drawPixel {t : State} {p : Ppu} {k : Nat} {color : BitVec 2} (h : DevicesAct s t)
      (hk : k < 23040) (hfb : p.fb = Store.write t.ppu.fb k color) : DevicesAct s (t.withPpu p)
  | store {t : State} (a : Word) (v : Byte) (h : DevicesAct s t) :
      DevicesAct s (busWrite a v t)

namespace DevicesAct

variable {s t u : State}

theorem trans (h : DevicesAct s t) (h' : DevicesAct t u) : DevicesAct s u := by
  induction h' with
  | refl => exact h
  | setTimer tm _ ih => exact ih.setTimer tm
  | setPpu _ hfb ih => exact ih.setPpu hfb
  | drawPixel _ hk hfb ih => exact ih.drawPixel hk hfb
  | store a v _ ih => exact ih.store a v

theorem times {f : State → State} (hf : ∀ u, DevicesAct u (f u)) (n : Nat) (s : State) :
    DevicesAct s (times n f s) :=
  times_rel (fun _ => refl) (fun _ _ _ => trans) hf n s

theorem setInterruptFlag (h : DevicesAct s t) (i : Nat) (value : Bool) :
    DevicesAct s (setInterruptFlag i value t) := h.store _ _

theorem setFetcher (h : DevicesAct s t) (f : Fetcher) : DevicesAct s (t.withFetcher f) :=
  h.setPpu rfl

theorem setMode (h : DevicesAct s t) (m : PpuMode) : DevicesAct s (setMode m t) := by
  have hstat (st : Byte) :
      DevicesAct s (busWrite t.io.stat st (t.withPpu { t.ppu with mode := m })) :=
    .store _ _ (.setPpu h rfl)
  simp only [Machine.setMode]
  split <;> split
  · exact ((hstat _).setInterruptFlag 1 true).setInterruptFlag 0 true
  · exact (hstat _).setInterruptFlag 0 true
  · exact (hstat _).setInterruptFlag 1 true
  · exact hstat _

/-- The CPU and the launch arguments are as before (R65, R226). -/
theorem cpu_launch (h : DevicesAct s t) : t.cpu = s.cpu ∧ t.launch = s.launch := by
  induction h with
  | refl => simp
  | setTimer _ _ ih | setPpu _ _ ih | drawPixel _ _ _ ih => exact ih
  | store a v _ ih => simpa using ih

end DevicesAct

/-! ## The timer -/

theorem divUpdate_acts (ticks : Nat) (s : State) : DevicesAct s (divUpdate ticks s) :=
  (DevicesAct.refl.setTimer _).trans (.times (fun _ => .store _ _ .refl) _ _)

theorem timaIncrement_acts (s : State) : DevicesAct s (timaIncrement s) := by
  simp only [timaIncrement]
  split
  · exact (DevicesAct.refl.store _ _).setInterruptFlag 2 true
  · exact .store _ _ .refl

theorem timaUpdate_acts (ticks : Nat) (s : State) : DevicesAct s (timaUpdate ticks s) := by
  simp only [timaUpdate]
  split
  · exact (DevicesAct.refl.setTimer _).trans (.times timaIncrement_acts _ _)
  · exact .refl

theorem timerUpdate_acts (cycles : Nat) (s : State) : DevicesAct s (timerUpdate cycles s) :=
  (divUpdate_acts _ s).trans (timaUpdate_acts _ _)

/-! ## The PPU -/

theorem endLine_acts (s : State) : DevicesAct s (endLine s) := by
  unfold endLine
  extract_lets p ly s1
  have hs1 : DevicesAct s s1 := .store _ _ (.setPpu .refl rfl)
  split
  · refine .setMode ?_ _
    exact .setPpu hs1 rfl
  · exact hs1.setMode _

theorem vblankLine_acts (s : State) : DevicesAct s (vblankLine s) := by
  unfold vblankLine
  extract_lets ly p s1
  have hs1 : DevicesAct s s1 := .setPpu .refl rfl
  split
  · refine .setMode ?_ _
    exact .setPpu (hs1.store _ _) rfl
  · exact hs1.store _ _

theorem oamScan_acts (s : State) : DevicesAct s (oamScan s) := .setPpu .refl rfl

theorem mode3Init_acts (s : State) : DevicesAct s (mode3Init s) := .setPpu .refl rfl

theorem windowEntry_acts (s : State) : DevicesAct s (windowEntry s) := by
  unfold windowEntry
  split
  · exact .setPpu .refl rfl
  · exact .refl

theorem spriteFetch_acts (s : State) : DevicesAct s (spriteFetch s) := by
  simp only [spriteFetch, spriteStage]
  split
  · split <;> exact .setPpu .refl rfl
  · exact .setFetcher .refl _

theorem fetcherStage_acts (sub : Nat) (s : State) : DevicesAct s (fetcherStage sub s) := by
  simp only [fetcherStage]
  split
  case h_4 => split <;> exact .setPpu .refl rfl
  all_goals exact .setFetcher .refl _

theorem fetcherTick_acts (s : State) : DevicesAct s (fetcherTick s) := by
  simp only [fetcherTick]
  split
  · exact .setFetcher .refl _
  · exact fetcherStage_acts _ s

/-- The pixel of row `ly` and column `lx` is inside the frame buffer (R223). -/
theorem popPixel_acts (s : State) : DevicesAct s (popPixel s) := by
  simp only [popPixel]
  split
  · exact .refl
  · split
    · exact .refl
    · split
      · exact .setPpu .refl rfl
      · split
        next hin => exact .drawPixel .refl (by omega) rfl
        next => exact .setPpu .refl rfl

theorem triggerOrPop_acts (s : State) : DevicesAct s (triggerOrPop s) := by
  unfold triggerOrPop
  split
  · exact .setFetcher .refl _
  · exact popPixel_acts s

theorem mode3Tick_acts (s : State) : DevicesAct s (mode3Tick s) := by
  refine (windowEntry_acts s).trans ?_
  simp only [mode3Tick]
  split
  · exact spriteFetch_acts _
  · exact (fetcherTick_acts _).trans (triggerOrPop_acts _)

theorem ppuTick_acts (s : State) : DevicesAct s (ppuTick s) := by
  have hdot : DevicesAct s (s.withPpu { s.ppu with dot := s.ppu.dot + 1 }) := .setPpu .refl rfl
  refine hdot.trans ?_
  simp only [ppuTick]
  split
  case h_1 =>
    split
    · exact ((oamScan_acts _).trans (mode3Init_acts _)).setMode _
    · exact .refl
  case h_2 =>
    split
    · exact (mode3Tick_acts _).setMode _
    · exact mode3Tick_acts _
  case h_3 =>
    split
    · exact endLine_acts _
    · exact .refl
  case h_4 =>
    split
    · exact vblankLine_acts _
    · exact .refl

theorem ppuUpdate_acts (cycles : Nat) (s : State) : DevicesAct s (ppuUpdate cycles s) :=
  .times ppuTick_acts _ s

/-! ## The host -/

/-- A press changes `held`, and beyond that does no more than a bus write (R262). -/
theorem pressButton_acts (btn : Button) (s : State) :
    ∃ held, DevicesAct { s with held := held } (pressButton btn s) := by
  simp only [pressButton]
  split
  · exact ⟨s.held, .refl⟩
  · refine ⟨s.held.set btn true, ?_⟩
    split
    · exact .store _ _ .refl
    · exact .refl

/-! ## The step -/

/-- Each part of a machine update (R255) keeps `P`. -/
structure KeptByUpdate (P : State → Prop) : Prop where
  hostEvent : ∀ s e, P s → P (applyHostEvent s e)
  overlayEnd : ∀ s, P s → P { s with overlayActive := false }
  cpuStep : ∀ s t, cpuStep s = .next t → P s → P t
  timer : ∀ cycles s, P s → P (timerUpdate cycles s)
  ppu : ∀ cycles s, P s → P (ppuUpdate cycles s)
  count : ∀ s, P s → P (countUpdate s)

theorem KeptByUpdate.overlayCheck {P : State → Prop} (h : KeptByUpdate P) {s : State} (hs : P s) :
    P (overlayCheck s) := by
  unfold Machine.overlayCheck
  split
  · exact h.overlayEnd s hs
  · exact hs

/-- What each part of a machine update keeps, the step keeps. -/
theorem KeptByUpdate.step {P : State → Prop} (h : KeptByUpdate P) {s t : State} (hs : P s)
    (ht : step s = .next t) : P t := by
  have hhost : P (hostActions s) :=
    List.foldlRecOn (dueHostEvents s.launch) applyHostEvent hs fun u hu e _ => h.hostEvent u e hu
  simp only [Machine.step, machineUpdate] at ht
  split at ht
  next u hu =>
    cases ht
    have hcpu : P u := h.cpuStep _ _ hu (h.overlayCheck hhost)
    exact h.count _ (h.ppu _ _ (h.timer _ _ hcpu))
  all_goals cases ht

/-! ## The memories -/

theorem CpuActs.memoryInv {s t : State} (h : CpuActs s t) (hs : MemoryInv s) : MemoryInv t := by
  induction h with
  | refl => exact hs
  | setCpu _ _ ih => exact ih.withCpu _
  | store a v _ ih => exact busWrite_memoryInv ih a v

theorem DevicesAct.memoryInv {s t : State} (h : DevicesAct s t) (hs : MemoryInv s) :
    MemoryInv t := by
  induction h with
  | refl => exact hs
  | setTimer _ _ ih => exact { ih with }
  | setPpu _ hfb ih => exact { ih with frame := hfb ▸ ih.frame, frameRange := hfb ▸ ih.frameRange }
  | drawPixel _ hk hfb ih =>
    exact { ih with
      frame := hfb ▸ Store.write_wf ih.frame _ _
      frameRange := hfb ▸ Store.write_below ih.frameRange hk _ }
  | store a v _ ih => exact busWrite_memoryInv ih a v

theorem loadRom_memoryInv {s : State} (h : MemoryInv s) (image : List Byte) :
    MemoryInv (loadRom image s).2 := by
  unfold loadRom
  split
  · exact h
  next c hc =>
    obtain ⟨hrom, hram⟩ := cartOfImage_stores hc
    refine { h with rom := ?_, ram := ?_ } <;> rintro _ ⟨⟩
    · exact hrom
    · exact hram ▸ ⟨Store.nil_wf, Store.nil_below _⟩

/-- After `Reset()` the three arrays hold their initial contents and the frame buffer is empty (R266). -/
theorem hostReset_memoryInv {s : State} (h : MemoryInv s) : MemoryInv (hostReset s) := by
  refine { h with
    mem := h.initMem, memRange := h.initMemRange, vram := h.initVram.1, vramRange := h.initVram.2
    oam := h.initOam.1, oamRange := h.initOam.2, frame := Store.nil_wf
    frameRange := Store.nil_below _, rom := ?_, ram := ?_ } <;> intro c hc
  all_goals obtain ⟨d, hd, rfl⟩ := Option.map_eq_some_iff.1 hc
  · exact h.rom d hd
  · exact h.ram d hd

theorem memoryInv_keptByUpdate : KeptByUpdate MemoryInv where
  hostEvent s e h := by
    cases e with
    | loadRom image => exact loadRom_memoryInv h image
    | reset => exact hostReset_memoryInv h
    | press btn =>
      obtain ⟨held, hacts⟩ := pressButton_acts btn s
      exact hacts.memoryInv { h with }
    | release btn => exact { h with }
    | clearFrameDone => exact { h with }
  overlayEnd _ h := { h with }
  cpuStep _ _ ht h := (cpuStep_acts ht).memoryInv h
  timer cycles s h := (timerUpdate_acts cycles s).memoryInv h
  ppu cycles s h := (ppuUpdate_acts cycles s).memoryInv h
  count _ h := { h with }

/-- Settles O57: a step stores only through the bus, into the frame buffer inside its range, and by
`LoadROM` and `Reset()`, and each keeps the canonical form and the range. -/
theorem stepKeepsMemoryCanonical : Obligations.StepKeepsMemoryCanonical := fun _ _ hs ht =>
  memoryInv_keptByUpdate.step hs ht

/-! ## The CPU's registers -/

theorem DevicesAct.cpuInv {s t : State} (h : DevicesAct s t) (hs : CpuInv s) : CpuInv t := by
  obtain ⟨hcpu, hlaunch⟩ := h.cpu_launch
  exact ⟨hcpu ▸ hs.flags, by simpa [hcpu, hlaunch] using hs.cycle⟩

/-- `Reset()` clears the counter and sets `F` to 0 or through its mask (R266, R267). -/
theorem hostReset_cpuInv {s : State} (h : CpuInv s) : CpuInv (hostReset s) := by
  have hclock : 0 < s.params.clock := Nat.zero_lt_of_lt h.cycle
  cases hb : s.launch.bootOverlay
  case true =>
    have hcpu : (hostReset s).cpu = Cpu.resetBoot := by simp [hostReset, hb]
    exact ⟨by simp [hcpu, Cpu.resetBoot], by rw [hcpu]; exact hclock⟩
  case false =>
    have hcpu : (hostReset s).cpu = s.params.resetRegs.cpu := by simp [hostReset, hb]
    exact ⟨by simp [hcpu, ResetRegs.cpu, BitVec.and_assoc], by rw [hcpu]; exact hclock⟩

/-- The counter after a CPU step is a remainder modulo `CLOCK` (R27). -/
theorem cpuStep_cpuInv {s t : State} (ht : cpuStep s = .next t) (h : CpuInv s) : CpuInv t := by
  have hacts := cpuStep_acts ht
  obtain ⟨n, hcount, -⟩ := cpuStep_countsCycles s
  obtain ⟨-, hcycle⟩ := hcount.of_next ht
  refine ⟨hacts.flags h.flags, ?_⟩
  rw [hcycle, State.params_eq t, hacts.launch]
  exact Nat.mod_lt _ (Nat.zero_lt_of_lt h.cycle)

theorem loadRom_cpuInv {s : State} (h : CpuInv s) (image : List Byte) :
    CpuInv (loadRom image s).2 := by
  unfold loadRom
  split
  · exact h
  · exact ⟨h.flags, h.cycle⟩

theorem cpuInv_keptByUpdate : KeptByUpdate CpuInv where
  hostEvent s e h := by
    cases e with
    | loadRom image => exact loadRom_cpuInv h image
    | reset => exact hostReset_cpuInv h
    | press btn =>
      obtain ⟨held, hacts⟩ := pressButton_acts btn s
      exact hacts.cpuInv ⟨h.flags, h.cycle⟩
    | release btn => exact ⟨h.flags, h.cycle⟩
    | clearFrameDone => exact ⟨h.flags, h.cycle⟩
  overlayEnd _ h := ⟨h.flags, h.cycle⟩
  cpuStep _ _ ht h := cpuStep_cpuInv ht h
  timer cycles s h := (timerUpdate_acts cycles s).cpuInv h
  ppu cycles s h := (ppuUpdate_acts cycles s).cpuInv h
  count _ h := ⟨h.flags, h.cycle⟩

/-! ## The mapper -/

/-- What `MapperInv` asks of a cartridge: a nonzero bank register (R235) and sizes of the tables
(R233). -/
structure Cart.Legal (c : Cart) : Prop where
  bank1 : c.bank1 ≠ 0#5
  banks : ∃ code : Byte, romBanksOf code = some c.romBanks
  ramSize : ∃ code : Byte, ramSizeOf code = some c.ramSize

theorem MapperInv.legal {s : State} (h : MapperInv s) {c : Cart} (hc : s.cart = some c) : c.Legal :=
  ⟨h.bank1 c hc, h.banks c hc, h.ramSize c hc⟩

theorem mapperInv_of_legal {s : State} (hcart : ∀ c, s.cart = some c → c.Legal)
    (hoverlay : s.overlayActive = true → s.launch.bootOverlay = true) : MapperInv s :=
  ⟨fun c hc => (hcart c hc).bank1, fun c hc => (hcart c hc).banks,
    fun c hc => (hcart c hc).ramSize, hoverlay⟩

/-- A write of 0 to the bank register stores 1 (R235). -/
theorem Cart.writeRom_bank1 {c : Cart} (h : c.bank1 ≠ 0#5) (a : Word) (v : Byte) :
    (c.writeRom a v).bank1 ≠ 0#5 := by
  unfold Cart.writeRom
  split
  · exact h
  · split
    · exact h
    · split
      · simp only
        split
        · decide
        · assumption
      · split <;> exact h

theorem Cart.Legal.writeRom {c : Cart} (h : c.Legal) (a : Word) (v : Byte) :
    (c.writeRom a v).Legal := by
  obtain ⟨-, -, hbanks, hsize⟩ := Cart.writeRom_stores c a v
  exact ⟨Cart.writeRom_bank1 h.bank1 a v, hbanks ▸ h.banks, hsize ▸ h.ramSize⟩

theorem Cart.Legal.writeRam {c : Cart} (h : c.Legal) (a : Word) (v : Byte) :
    (c.writeRam a v).Legal := by
  unfold Cart.writeRam
  split
  · exact ⟨h.bank1, h.banks, h.ramSize⟩
  · exact h

theorem Cart.Legal.resetRegisters {c : Cart} (h : c.Legal) : c.resetRegisters.Legal :=
  ⟨(by decide : 1#5 ≠ 0#5), h.banks, h.ramSize⟩

theorem cartOfImage_legal {image : List Byte} {c : Cart} (h : cartOfImage image = some c) :
    c.Legal := by
  unfold cartOfImage at h
  split at h
  · cases h
  · split at h
    next hbanks hsize =>
      cases h
      exact ⟨(by decide : 1#5 ≠ 0#5), ⟨_, hbanks⟩, ⟨_, hsize⟩⟩
    · cases h

theorem busWrite_mapperInv {s : State} (h : MapperInv s) (a : Word) (v : Byte) :
    MapperInv (busWrite a v s) := by
  refine mapperInv_of_legal (fun c hc => ?_) (by simpa using h.overlay)
  unfold busWrite at hc
  split at hc
  case h_1 =>
    obtain ⟨d, hd, rfl⟩ := Option.map_eq_some_iff.1 hc
    exact (h.legal hd).writeRom a v
  case h_3 =>
    obtain ⟨d, hd, rfl⟩ := Option.map_eq_some_iff.1 hc
    exact (h.legal hd).writeRam a v
  case h_5 =>
    simp only at hc
    split at hc
    · rw [dmaCopy_oam] at hc
      exact h.legal hc
    · split at hc <;> exact h.legal hc
  all_goals exact h.legal hc

theorem CpuActs.mapperInv {s t : State} (h : CpuActs s t) (hs : MapperInv s) : MapperInv t := by
  induction h with
  | refl => exact hs
  | setCpu _ _ ih => exact { ih with }
  | store a v _ ih => exact busWrite_mapperInv ih a v

theorem DevicesAct.mapperInv {s t : State} (h : DevicesAct s t) (hs : MapperInv s) :
    MapperInv t := by
  induction h with
  | refl => exact hs
  | setTimer _ _ ih | setPpu _ _ ih | drawPixel _ _ _ ih => exact { ih with }
  | store a v _ ih => exact busWrite_mapperInv ih a v

theorem loadRom_mapperInv {s : State} (h : MapperInv s) (image : List Byte) :
    MapperInv (loadRom image s).2 := by
  unfold loadRom
  split
  · exact h
  next c hc =>
    refine mapperInv_of_legal ?_ id
    rintro _ ⟨⟩
    exact cartOfImage_legal hc

theorem hostReset_mapperInv {s : State} (h : MapperInv s) : MapperInv (hostReset s) := by
  refine mapperInv_of_legal (fun c hc => ?_) fun ho => (Bool.and_eq_true_iff.1 ho).1
  obtain ⟨d, hd, rfl⟩ := Option.map_eq_some_iff.1 hc
  exact (h.legal hd).resetRegisters

theorem mapperInv_keptByUpdate : KeptByUpdate MapperInv where
  hostEvent s e h := by
    cases e with
    | loadRom image => exact loadRom_mapperInv h image
    | reset => exact hostReset_mapperInv h
    | press btn =>
      obtain ⟨held, hacts⟩ := pressButton_acts btn s
      exact hacts.mapperInv { h with }
    | release btn => exact { h with }
    | clearFrameDone => exact { h with }
  overlayEnd _ h := { h with overlay := nofun }
  cpuStep _ _ ht h := (cpuStep_acts ht).mapperInv h
  timer cycles s h := (timerUpdate_acts cycles s).mapperInv h
  ppu cycles s h := (ppuUpdate_acts cycles s).mapperInv h
  count _ h := { h with }

/-- Settles O58: each part of a machine update keeps the two invariants, each on its own. -/
theorem stepKeepsCpuAndMapper : Obligations.StepKeepsCpuAndMapper := fun _ _ hcpu hmapper ht =>
  ⟨cpuInv_keptByUpdate.step hcpu ht, mapperInv_keptByUpdate.step hmapper ht⟩

end Sys2Proof.Machine
end

section
/-! PROOFS. The memory bus (R53 to R60): what a read answers in each region, what a write changes in
each region, the OAM copy and the joypad byte in closed form, and the statements about the bus. -/

namespace Sys2Proof.Machine

/-! ## Reads, region by region -/

theorem busRead_vram {a : Word} (s : State) (h : regionOf a = .vram) :
    busRead a s = Store.read s.vram (vramIndex a) := by simp only [busRead, h]

theorem busRead_oam {a : Word} (s : State) (h : regionOf a = .oam) :
    busRead a s = Store.read s.oam (oamIndex a) := by simp only [busRead, h]

theorem busRead_cartRom {a : Word} {s : State} {c : Cart} (h : regionOf a = .cartRom)
    (hc : s.cart = some c) : busRead a s = (bootByte a s).getD (c.readRom a) := by
  simp only [busRead, h, hc]

theorem busRead_cartRam {a : Word} {s : State} {c : Cart} (h : regionOf a = .cartRam)
    (hc : s.cart = some c) : busRead a s = c.readRam a := by simp only [busRead, h, hc]

/-- With no cartridge both of its windows read as 0 (R53). -/
theorem busRead_noCart {a : Word} {s : State} (h : regionOf a = .cartRom ∨ regionOf a = .cartRam)
    (hc : s.cart = none) : busRead a s = 0x00#8 := by
  rcases h with h | h <;> simp only [busRead, h, hc]

/-- An internal address reads as its byte of the array, JOYP as the computed one (R55, R60). -/
theorem busRead_internal_joyp {a : Word} (s : State) (h : regionOf a = .internal) :
    busRead a s =
      if a = s.io.joyp then joypadByte (Store.read s.mem a.toNat) s.held
      else Store.read s.mem a.toNat := by simp only [busRead, h]

/-! ## The boot overlay -/

theorem bootByte_inactive {s : State} (a : Word)
    (h : s.overlayActive = false ∨ s.launch.boot = none) : bootByte a s = none := by
  rcases h with h | h <;> simp [bootByte, h]

/-- The active overlay shows the boot program's 256 bytes and nothing above them (R240). -/
theorem bootByte_active {s : State} {boot : BootRom} (a : Word) (ho : s.overlayActive = true)
    (hb : s.launch.boot = some boot) : bootByte a s = boot[a.toNat]? := by
  simp [bootByte, ho, hb]

/-! ## A read does not depend on the stores of other regions -/

theorem busRead_setVram {x : Word} (s : State) (m : Memory) (h : regionOf x ≠ .vram) :
    busRead x { s with vram := m } = busRead x s := by
  unfold busRead
  split
  case h_2 hr => exact absurd hr h
  all_goals rfl

theorem busRead_setOam {x : Word} (s : State) (m : Memory) (h : regionOf x ≠ .oam) :
    busRead x { s with oam := m } = busRead x s := by
  unfold busRead
  split
  case h_4 hr => exact absurd hr h
  all_goals rfl

theorem busRead_setCart {x : Word} (s : State) (c : Option Cart) (hrom : regionOf x ≠ .cartRom)
    (hram : regionOf x ≠ .cartRam) : busRead x { s with cart := c } = busRead x s := by
  unfold busRead
  split
  case h_1 hr => exact absurd hr hrom
  case h_3 hr => exact absurd hr hram
  all_goals rfl

@[simp] theorem busRead_setSerialOut (x : Word) (s : State) (l : List Byte) :
    busRead x { s with serialOut := l } = busRead x s := rfl

/-! ## Writes, region by region -/

theorem busWrite_cartRom {a : Word} (v : Byte) (s : State) (h : regionOf a = .cartRom) :
    busWrite a v s = { s with cart := s.cart.map (fun c => c.writeRom a v) } := by
  simp only [busWrite, h]

theorem busWrite_vram {a : Word} (v : Byte) (s : State) (h : regionOf a = .vram) :
    busWrite a v s = { s with vram := Store.write s.vram (vramIndex a) v } := by
  simp only [busWrite, h]

theorem busWrite_cartRam {a : Word} (v : Byte) (s : State) (h : regionOf a = .cartRam) :
    busWrite a v s = { s with cart := s.cart.map (fun c => c.writeRam a v) } := by
  simp only [busWrite, h]

theorem busWrite_oam {a : Word} (v : Byte) (s : State) (h : regionOf a = .oam) :
    busWrite a v s = { s with oam := Store.write s.oam (oamIndex a) v } := by
  simp only [busWrite, h]

/-- A write to the DMA trigger stores the byte, then copies (R58). -/
theorem busWrite_dma {s : State} (v : Byte) (h : regionOf s.io.dma = .internal) :
    busWrite s.io.dma v s = dmaCopy v { s with mem := Store.write s.mem s.io.dma.toNat v } := by
  simp only [busWrite, h, if_true]

/-- A write to an internal address but the DMA trigger stores one byte, and beyond that at most
appends to the serial output (R57). -/
theorem busWrite_internal_mem {a : Word} (v : Byte) (s : State) (h : regionOf a = .internal)
    (hd : a ≠ s.io.dma) :
    busWrite a v s =
      { s with
        mem := Store.write s.mem a.toNat v
        serialOut := (busWrite a v s).serialOut } := by
  simp only [busWrite, h, if_neg hd]
  split <;> rfl

/-- A write that leaves the cartridge as it is leaves the machine as it is. -/
theorem setCart_map_self {s : State} {f : Cart → Cart} (h : ∀ c, s.cart = some c → f c = c) :
    { s with cart := s.cart.map f } = s := by
  have hmap : s.cart.map f = s.cart := by
    cases hc : s.cart with
    | none => rfl
    | some c => exact congrArg some (h c hc)
  rw [hmap]

/-- With no cartridge a write to its windows changes nothing (R54). -/
theorem busWrite_noCart {a : Word} {s : State} (v : Byte)
    (h : regionOf a = .cartRom ∨ regionOf a = .cartRam) (hc : s.cart = none) :
    busWrite a v s = s := by
  rcases h with h | h
  · rw [busWrite_cartRom v s h, setCart_map_self (by simp [hc])]
  · rw [busWrite_cartRam v s h, setCart_map_self (by simp [hc])]

/-- Settles O37: the decoder's reads, region by region, and the writes that find no cartridge. -/
theorem busReadDecoder : Obligations.BusReadDecoder := by
  intro s a
  refine ⟨fun ha => ?_, fun hlo hhi => ?_, fun hlo hhi => ?_, fun hlo hhi => ?_, fun ha => ?_,
    fun ha hc v => ?_⟩
  · have hr := regionOf_cartRom.2 ha
    refine ⟨busRead_noCart (.inl hr), fun c hc hoff => ?_, fun c boot hc ho hb => ⟨fun h => ?_,
      fun h => ?_⟩⟩
    · rw [busRead_cartRom hr hc, bootByte_inactive a hoff, Option.getD_none]
    · rw [busRead_cartRom hr hc, bootByte_active a ho hb, Vector.getElem?_eq_getElem h,
        Option.getD_some]
    · rw [busRead_cartRom hr hc, bootByte_active a ho hb, Vector.getElem?_eq_none h,
        Option.getD_none]
  · have hr := regionOf_vram.2 ⟨hlo, hhi⟩
    rw [busRead_vram s hr, vramIndex_eq hr]
  · have hr := regionOf_cartRam.2 ⟨hlo, hhi⟩
    exact ⟨busRead_noCart (.inr hr), fun c => busRead_cartRam hr⟩
  · have hr := regionOf_oam.2 ⟨hlo, hhi⟩
    rw [busRead_oam s hr, oamIndex_eq hr]
  · exact busRead_internal_joyp s (regionOf_internal.2 (by omega))
  · exact busWrite_noCart v (ha.imp regionOf_cartRom.2 regionOf_cartRam.2) hc

/-! ## Cartridge RAM -/

/-- Which RAM byte an address names does not depend on what the RAM holds. -/
@[simp] theorem Cart.ramIndex_writeRam (c : Cart) (a x : Word) (v : Byte) :
    (c.writeRam a v).ramIndex x = c.ramIndex x := by
  unfold Cart.writeRam
  split <;> rfl

@[simp] theorem Cart.readRom_writeRam (c : Cart) (a x : Word) (v : Byte) :
    (c.writeRam a v).readRom x = c.readRom x := by
  unfold Cart.writeRam
  split <;> rfl

theorem Cart.writeRom_none {c : Cart} (h : c.kind = .none) (a : Word) (v : Byte) :
    c.writeRom a v = c := by simp only [Cart.writeRom, h]

theorem Cart.readRam_of_ramIndex {c : Cart} {a : Word} {i : Nat} (h : c.ramIndex a = some i) :
    c.readRam a = Store.read c.ram i := by simp only [Cart.readRam, h]

theorem Cart.readRam_of_absent {c : Cart} {a : Word} (h : c.ramIndex a = none) :
    c.readRam a = 0xFF#8 := by simp only [Cart.readRam, h]

theorem Cart.writeRam_of_ramIndex {c : Cart} {a : Word} {i : Nat} (h : c.ramIndex a = some i)
    (v : Byte) : c.writeRam a v = { c with ram := Store.write c.ram i v } := by
  simp only [Cart.writeRam, h]

theorem Cart.writeRam_of_absent {c : Cart} {a : Word} (h : c.ramIndex a = none) (v : Byte) :
    c.writeRam a v = c := by simp only [Cart.writeRam, h]

/-- Present RAM, enabled where the mapper can disable it, gives the address a byte (R234, R239). -/
theorem Cart.ramIndex_isSome {c : Cart} (hsize : c.ramSize ≠ 0)
    (hon : c.kind = .none ∨ c.ramEn = true) (a : Word) : ∃ i, c.ramIndex a = some i := by
  cases hk : c.kind with
  | none => simp [Cart.ramIndex, hsize, hk]
  | mbc1 => simp [Cart.ramIndex, hsize, hk, hon.resolve_left (by simp [hk])]

theorem Cart.ramIndex_eq_none {c : Cart}
    (hoff : c.ramSize = 0 ∨ c.kind = .mbc1 ∧ c.ramEn = false) (a : Word) : c.ramIndex a = none := by
  rcases hoff with hsize | ⟨hk, hen⟩
  · simp [Cart.ramIndex, hsize]
  · simp [Cart.ramIndex, hk, hen]

/-- The byte just written to RAM is the byte read, at every address that names it; every other
address reads as before (R239). -/
theorem Cart.readRam_writeRam {c : Cart} {a : Word} {i : Nat} (h : c.ramIndex a = some i) (x : Word)
    (v : Byte) :
    (c.writeRam a v).readRam x = if c.ramIndex x = some i then v else c.readRam x := by
  cases hx : c.ramIndex x with
  | none =>
    rw [Cart.readRam_of_absent (by simpa using hx), Cart.readRam_of_absent hx]
    rfl
  | some j =>
    rw [Cart.readRam_of_ramIndex (i := j) (by simpa using hx), Cart.readRam_of_ramIndex hx,
      Cart.writeRam_of_ramIndex h, Store.read_write]
    simp

/-! ## Reading back what was written -/

theorem busRead_busWrite_vram {a : Word} (v : Byte) (s : State) (h : regionOf a = .vram) :
    busRead a (busWrite a v s) = v := by
  rw [busRead_vram _ h, busWrite_vram v s h, Store.read_write_self]

theorem busRead_busWrite_oam {a : Word} (v : Byte) (s : State) (h : regionOf a = .oam) :
    busRead a (busWrite a v s) = v := by
  rw [busRead_oam _ h, busWrite_oam v s h, Store.read_write_self]

/-- Whatever its side effect, a write to an internal address stores the byte (R54, R57). -/
theorem busWrite_mem {a : Word} (v : Byte) (s : State) (h : regionOf a = .internal) :
    (busWrite a v s).mem = Store.write s.mem a.toNat v := by
  by_cases hd : a = s.io.dma
  · subst hd
    rw [busWrite_dma v h, dmaCopy_oam]
  · rw [busWrite_internal_mem v s h hd]

theorem busRead_busWrite_internal {a : Word} (v : Byte) (s : State) (h : regionOf a = .internal)
    (hj : a ≠ s.io.joyp) : busRead a (busWrite a v s) = v := by
  rw [busRead_internal _ h (by simpa using hj), busWrite_mem v s h, Store.read_write_self]

theorem busRead_busWrite_cartRam {a : Word} {s : State} {c : Cart} {i : Nat} (v : Byte)
    (h : regionOf a = .cartRam) (hc : s.cart = some c) (hi : c.ramIndex a = some i) :
    busRead a (busWrite a v s) = v := by
  rw [busWrite_cartRam v s h, busRead_cartRam h (c := c.writeRam a v) (by simp [hc]),
    Cart.readRam_writeRam hi, if_pos hi]

theorem busWrite_cartRam_absent {a : Word} {s : State} {c : Cart} (v : Byte)
    (h : regionOf a = .cartRam) (hc : s.cart = some c) (hi : c.ramIndex a = none) :
    busWrite a v s = s := by
  rw [busWrite_cartRam v s h, setCart_map_self]
  intro d hd
  obtain rfl : c = d := Option.some.inj (hc.symm.trans hd)
  exact Cart.writeRam_of_absent hi v

/-- Settles O38: in each store the byte written is the byte read; an address that names no RAM byte
reads the sentinel and takes nothing. -/
theorem writeThenRead : Obligations.WriteThenRead := by
  intro s a v
  refine ⟨fun hlo hhi => ?_, fun hlo hj => ?_, fun hlo hhi c hc hsize hon => ?_,
    fun hlo hhi c hc hoff => ?_⟩
  · exact busRead_busWrite_vram v s (regionOf_vram.2 ⟨hlo, hhi⟩)
  · by_cases ho : 0xFE00 ≤ a.toNat ∧ a.toNat ≤ 0xFE9F
    · exact busRead_busWrite_oam v s (regionOf_oam.2 ho)
    · exact busRead_busWrite_internal v s (regionOf_internal.2 ⟨hlo, ho⟩) hj
  · obtain ⟨i, hi⟩ := Cart.ramIndex_isSome hsize hon a
    exact busRead_busWrite_cartRam v (regionOf_cartRam.2 ⟨hlo, hhi⟩) hc hi
  · have hr := regionOf_cartRam.2 ⟨hlo, hhi⟩
    have hi := Cart.ramIndex_eq_none hoff a
    exact ⟨(busRead_cartRam hr hc).trans (Cart.readRam_of_absent hi),
      busWrite_cartRam_absent v hr hc hi⟩

/-! ## What a write leaves unchanged -/

theorem vramIndex_inj {a x : Word} (ha : regionOf a = .vram) (hx : regionOf x = .vram)
    (h : vramIndex x = vramIndex a) : x = a := by
  rw [vramIndex_eq ha, vramIndex_eq hx] at h
  have := regionOf_vram.1 ha
  have := regionOf_vram.1 hx
  exact BitVec.eq_of_toNat_eq (by omega)

theorem oamIndex_inj {a x : Word} (ha : regionOf a = .oam) (hx : regionOf x = .oam)
    (h : oamIndex x = oamIndex a) : x = a := by
  rw [oamIndex_eq ha, oamIndex_eq hx] at h
  have := regionOf_oam.1 ha
  have := regionOf_oam.1 hx
  exact BitVec.eq_of_toNat_eq (by omega)

theorem busWrite_vram_frame {a x : Word} (v : Byte) (s : State) (ha : regionOf a = .vram)
    (hx : x ≠ a) : busRead x (busWrite a v s) = busRead x s := by
  rw [busWrite_vram v s ha]
  by_cases hr : regionOf x = .vram
  · rw [busRead_vram _ hr, busRead_vram _ hr]
    exact Store.read_write_ne _ v fun h => hx (vramIndex_inj ha hr h)
  · exact busRead_setVram s _ hr

theorem busWrite_oam_frame {a x : Word} (v : Byte) (s : State) (ha : regionOf a = .oam)
    (hx : x ≠ a) : busRead x (busWrite a v s) = busRead x s := by
  rw [busWrite_oam v s ha]
  by_cases hr : regionOf x = .oam
  · rw [busRead_oam _ hr, busRead_oam _ hr]
    exact Store.read_write_ne _ v fun h => hx (oamIndex_inj ha hr h)
  · exact busRead_setOam s _ hr

/-- A mapper register is seen in the cartridge's windows only, and the fixed controller has none
(R234, R235). -/
theorem busWrite_cartRom_frame {a x : Word} (v : Byte) (s : State) (ha : regionOf a = .cartRom)
    (hx : (∃ c, s.cart = some c ∧ c.kind = .mbc1) →
      regionOf x ≠ .cartRom ∧ regionOf x ≠ .cartRam) :
    busRead x (busWrite a v s) = busRead x s := by
  rw [busWrite_cartRom v s ha]
  by_cases hc : ∃ c, s.cart = some c ∧ c.kind = .mbc1
  · exact busRead_setCart s _ (hx hc).1 (hx hc).2
  · rw [setCart_map_self]
    intro c hcart
    cases hk : c.kind with
    | none => exact Cart.writeRom_none hk a v
    | mbc1 => exact absurd ⟨c, hcart, hk⟩ hc

/-- A write to cartridge RAM is seen only at the addresses that name its RAM byte (R239). -/
theorem busWrite_cartRam_frame {a x : Word} (v : Byte) (s : State) (ha : regionOf a = .cartRam)
    (hx : regionOf x = .cartRam → ∀ c i, s.cart = some c → c.ramIndex a = some i →
      c.ramIndex x ≠ some i) : busRead x (busWrite a v s) = busRead x s := by
  cases hc : s.cart with
  | none => rw [busWrite_noCart v (.inr ha) hc]
  | some c =>
    cases hi : c.ramIndex a with
    | none => rw [busWrite_cartRam_absent v ha hc hi]
    | some i =>
      rw [busWrite_cartRam v s ha]
      have hc' : ({ s with cart := s.cart.map (fun c => c.writeRam a v) } : State).cart =
          some (c.writeRam a v) := by simp [hc]
      by_cases hram : regionOf x = .cartRam
      · rw [busRead_cartRam hram hc', busRead_cartRam hram hc, Cart.readRam_writeRam hi,
          if_neg (hx hram c i hc hi)]
      · by_cases hrom : regionOf x = .cartRom
        · rw [busRead_cartRom hrom hc', busRead_cartRom hrom hc, Cart.readRom_writeRam]
          rfl
        · exact busRead_setCart s _ hrom hram

/-- A write to the byte array is seen at its own address and, where it triggers DMA, in OAM (R57,
R58). -/
theorem busWrite_internal_frame {a x : Word} (v : Byte) (s : State) (ha : regionOf a = .internal)
    (hx : x ≠ a) (hdma : a = s.io.dma → regionOf x ≠ .oam) :
    busRead x (busWrite a v s) = busRead x s := by
  by_cases hd : a = s.io.dma
  · subst hd
    rw [busWrite_dma v ha, dmaCopy_oam, busRead_setOam _ _ (hdma rfl), busRead_memWrite _ _ _ _ hx]
  · rw [busWrite_internal_mem v s ha hd]
    exact busRead_memWrite a x v s hx

/-- Settles O39: `storeReaches` names, region by region, what the write's frame leaves out. -/
theorem writeFrame : Obligations.WriteFrame := by
  intro s a v x hx
  cases ha : regionOf a <;> simp only [storeReaches, ha] at hx
  case cartRom => exact busWrite_cartRom_frame v s ha fun hc => by simpa [hc] using hx
  case vram => exact busWrite_vram_frame v s ha hx
  case cartRam =>
    exact busWrite_cartRam_frame v s ha fun hr c i hc hi hxi => hx ⟨hr, c, i, hc, hi, hxi⟩
  case oam => exact busWrite_oam_frame v s ha hx
  case internal =>
    obtain ⟨hne, hdma⟩ := not_or.1 hx
    exact busWrite_internal_frame v s ha hne fun hd hr => hdma ⟨hd, hr⟩

/-! ## The OAM copy -/

/-- Byte `i` of page `v` is at address `256 * v + i` (R58). -/
theorem mkWord_add_ofNat (v : Byte) (i : Nat) :
    mkWord v 0#8 + BitVec.ofNat 16 i = BitVec.ofNat 16 (256 * v.toNat + i) := by
  apply BitVec.eq_of_toNat_eq
  simp [mkWord_toNat]

/-- OAM has one page, and there the copy's source is the byte of the same index. -/
theorem oamIndex_pageByte {v : Byte} {i : Nat} (hi : i < 160)
    (h : regionOf (BitVec.ofNat 16 (256 * v.toNat + i)) = .oam) :
    oamIndex (BitVec.ofNat 16 (256 * v.toNat + i)) = i := by
  have hv := v.isLt
  have hrange := regionOf_oam.1 h
  rw [oamIndex_eq h]
  simp only [BitVec.toNat_ofNat] at hrange ⊢
  omega

/-- A source byte reads the same while OAM byte `i` itself is still the old one. -/
theorem busRead_pageByte_setOam {v : Byte} {i : Nat} (hi : i < 160) (s : State) (m : Memory)
    (hm : Store.read m i = Store.read s.oam i) :
    busRead (BitVec.ofNat 16 (256 * v.toNat + i)) { s with oam := m } =
      busRead (BitVec.ofNat 16 (256 * v.toNat + i)) s := by
  by_cases hr : regionOf (BitVec.ofNat 16 (256 * v.toNat + i)) = .oam
  · rw [busRead_oam _ hr, busRead_oam _ hr, oamIndex_pageByte hi hr, hm]
  · exact busRead_setOam s m hr

/-- The first `n` bytes of the copy: the source page as it reads before the copy, because a source
byte that is itself in OAM has not been overwritten yet. -/
theorem dmaFold_read (v : Byte) (s : State) (n : Nat) (hn : n ≤ 160) (i : Nat) :
    Store.read ((List.range n).foldl (dmaByte v) s).oam i =
      if i < n then busRead (BitVec.ofNat 16 (256 * v.toNat + i)) s else Store.read s.oam i := by
  induction n generalizing i with
  | zero => simp
  | succ n ih =>
    have ih := ih (by omega)
    have hsource :
        busRead (BitVec.ofNat 16 (256 * v.toNat + n)) ((List.range n).foldl (dmaByte v) s) =
          busRead (BitVec.ofNat 16 (256 * v.toNat + n)) s := by
      rw [dmaFold_oam]
      exact busRead_pageByte_setOam (by omega) s _ (by simp [ih])
    rw [List.range_succ, List.foldl_append, List.foldl_cons, List.foldl_nil, dmaByte,
      Store.read_write, mkWord_add_ofNat, hsource, ih]
    by_cases hin : i = n
    · simp [hin]
    · simp only [hin, if_false, show i < n + 1 ↔ i < n by omega]

theorem dmaCopy_read (v : Byte) (s : State) (i : Nat) :
    Store.read (dmaCopy v s).oam i =
      if i < 160 then busRead (BitVec.ofNat 16 (256 * v.toNat + i)) s else Store.read s.oam i :=
  dmaFold_read v s 160 le_rfl i

theorem IoMap.Valid.dma_internal {m : IoMap} (h : m.Valid) : regionOf m.dma = .internal :=
  h.internal m.dma (by simp [IoMap.addresses])

/-- Settles O40: the trigger register is stored, then the copy runs from that state. -/
theorem oamDmaCopies : Obligations.OamDmaCopies := by
  intro s v hv
  rw [busWrite_dma v hv.io.dma_internal]
  exact ⟨fun i hi => by rw [dmaCopy_read, if_pos hi],
    fun i hi => by rw [dmaCopy_read, if_neg (by omega)], dmaCopy_oam v _⟩

/-! ## The serial hook -/

theorem IoMap.Valid.sc_internal {m : IoMap} (h : m.Valid) :
    regionOf m.sc = .internal ∧ m.sc ≠ m.joyp ∧ m.sc ≠ m.dma := by
  have hd := h.distinct
  simp only [IoMap.addresses, List.nodup_cons, List.mem_cons, not_or] at hd
  obtain ⟨⟨hj, -⟩, ⟨hm, -⟩, -⟩ := hd
  exact ⟨h.internal m.sc (by simp [IoMap.addresses]), Ne.symm hj, hm⟩

theorem IoMap.Valid.joyp_internal {m : IoMap} (h : m.Valid) :
    regionOf m.joyp = .internal :=
  h.internal m.joyp (by simp [IoMap.addresses])

/-- SB does not move when SC is stored: its byte is emitted as it was (R59). -/
theorem busWrite_sc_serialOut {s : State} (h : s.io.Valid) (v : Byte) :
    (busWrite s.io.sc v s).serialOut =
      if v = s.params.serialStart then s.serialOut ++ [busRead s.io.sb s] else s.serialOut := by
  obtain ⟨hr, -, hd⟩ := h.sc_internal
  have hsb : s.io.sb ∈ s.io.plain := by simp [IoMap.plain]
  obtain ⟨-, -, -, hne⟩ := h.plain hsb
  have hread :
      Store.read (Store.write s.mem s.io.sc.toNat v) s.io.sb.toNat = busRead s.io.sb s := by
    rw [busRead_plain h hsb, Store.read_write_ne _ _ fun e => hne (BitVec.eq_of_toNat_eq e)]
  simp only [busWrite, hr, if_neg hd, true_and]
  split
  · simp only [serialEmit]
    rw [← hread]
  · rfl

/-! ## The joypad register -/

theorem bitOf_or (v w : Byte) (k : Nat) : bitOf (v ||| w) k = (bitOf v k || bitOf w k) :=
  BitVec.getLsbD_or

theorem bitOf_and (v w : Byte) (k : Nat) : bitOf (v &&& w) k = (bitOf v k && bitOf w k) :=
  BitVec.getLsbD_and

theorem bitOf_bitMask {j : Nat} (hj : j < 8) (k : Nat) : bitOf (bitMask k) j = decide (j = k) := by
  have htwoPow : bitOf (bitMask k) j = (decide (k < 8) && decide (k = j)) :=
    BitVec.getLsbD_twoPow k j
  rw [htwoPow, ← Bool.decide_and, decide_eq_decide]
  omega

/-- One of the four low terms of R60: bit `k`, or 0 where a held button clears it. -/
theorem bitOf_lowTerm {j : Nat} (hj : j < 8) (p : Prop) [Decidable p] (k : Nat) :
    bitOf (if p then 0#8 else bitMask k) j = (!decide p && decide (j = k)) := by
  by_cases hp : p
  · simp [hp, bitOf]
  · simp [hp, bitOf_bitMask hj]

/-- Bits 7:6 are set and bits 5:4 are the stored selection: no low term reaches them (R60). -/
theorem bitOf_joypadByte_high (stored : Byte) (held : Held) :
    bitOf (joypadByte stored held) 7 = true ∧ bitOf (joypadByte stored held) 6 = true ∧
      bitOf (joypadByte stored held) 5 = bitOf stored 5 ∧
      bitOf (joypadByte stored held) 4 = bitOf stored 4 := by
  have hset : bitOf 0xC0#8 7 = true ∧ bitOf 0xC0#8 6 = true ∧ bitOf 0xC0#8 5 = false ∧
      bitOf 0xC0#8 4 = false := by decide
  have hsel : bitOf 0x30#8 5 = true ∧ bitOf 0x30#8 4 = true := by decide
  simp [joypadByte, bitOf_or, bitOf_and, bitOf_lowTerm, hset, hsel]

theorem Button.exists_iff {P : Button → Prop} :
    (∃ btn, P btn) ↔ P .right ∨ P .left ∨ P .up ∨ P .down ∨ P .a ∨ P .b ∨ P .select ∨ P .start := by
  constructor
  · rintro ⟨btn, h⟩
    cases btn <;> simp only [h, true_or, or_true]
  · rintro (h | h | h | h | h | h | h | h) <;> exact ⟨_, h⟩

/-- A low bit is clear exactly where one of its two buttons is held and its group is selected
(R60). -/
theorem bitOf_joypadByte_low (stored : Byte) (held : Held) {k : Nat} (hk : k < 4) :
    bitOf (joypadByte stored held) k = false ↔
      ∃ btn : Button, btn.bit = k ∧ held.has btn = true ∧
        bitOf stored (if btn.directional then 4 else 5) = false := by
  have hset : ∀ j < 4, bitOf 0xC0#8 j = false ∧ bitOf 0x30#8 j = false := by decide
  have hsel : bitOf 0x30#8 5 = true ∧ bitOf 0x30#8 4 = true := by decide
  rw [Button.exists_iff]
  interval_cases k <;>
    simp [joypadByte, bitOf_or, bitOf_and, bitOf_lowTerm, hset, hsel, Button.bit, Held.has,
      Button.directional, and_comm, imp_iff_not_or]

/-- Settles O41: the store to SC in closed form, and the joypad byte bit by bit. -/
theorem serialHookAndJoypadRead : Obligations.SerialHookAndJoypadRead := by
  refine ⟨fun s v hv => ?_, fun s hv => ?_⟩
  · obtain ⟨hr, hj, hd⟩ := hv.io.sc_internal
    have hout := busWrite_sc_serialOut hv.io v
    exact ⟨fun h => hout.trans (if_pos h), fun h => hout.trans (if_neg h),
      busRead_busWrite_internal v s hr hj,
      fun x hx => busWrite_internal_frame v s hr hx fun h => absurd h hd,
      by rw [busWrite_internal_mem v s hr hd]⟩
  · have hr := hv.io.joyp_internal
    rw [busRead_internal_joyp s hr, if_pos rfl]
    obtain ⟨h7, h6, h5, h4⟩ := bitOf_joypadByte_high (Store.read s.mem s.io.joyp.toNat) s.held
    exact ⟨h7, h6, h5, h4, fun k => bitOf_joypadByte_low _ _,
      fun v => by rw [busWrite_mem v s hr, Store.read_write_self]⟩

end Sys2Proof.Machine
end

section
/-! PROOFS. Decoding and encoding (R69 to R82). Every cell of the opcode grids holds the instruction
whose encoding is the cell's own byte and, up to the length that byte asks for, the bytes after it
(`encode_decodeBytes`); every instruction stands in the cell of its encoding (`headInstr_encode`), so
no two instructions have the same encoding. Both directions of the round trip follow. -/

namespace Sys2Proof.Machine

/-! ## Bytes by their fields -/

/-- The byte whose bits 7:6, 5:3 and 2:0 are the given fields (R69). -/
def byteOfFields (b7 b6 : Bool) (y z : Num8) : Byte :=
  byteOf (128 * b7.toNat + 64 * b6.toNat + 8 * y.val + z.val)

theorem byteOfFields_fields (b : Byte) :
    byteOfFields (b.getLsbD 7) (b.getLsbD 6) (fieldY b) (fieldZ b) = b := by
  decide +revert

theorem rotOf_code (y : Num8) : (rotOf y).code = y.val := by cases y <;> rfl

theorem operandOf_code (z : Num8) : (operandOf z).code = z.val := by cases z <;> rfl

/-! ## The extended table (R81) -/

theorem encode_rotOn (op : RotOp) (o : Operand8) :
    encode (.rotOn op o) = [0xCB#8, byteOf (8 * op.code + o.code)] := by
  cases o with
  | mhl => cases op <;> rfl
  | reg r => cases op <;> cases r <;> rfl

theorem encode_bitOn (b : Num8) (o : Operand8) :
    encode (.bitOn b o) = [0xCB#8, byteOf (0x40 + 8 * b.val + o.code)] := by
  cases o with
  | mhl => cases b <;> rfl
  | reg r => cases b <;> cases r <;> rfl

theorem encode_resOn (b : Num8) (o : Operand8) :
    encode (.resOn b o) = [0xCB#8, byteOf (0x80 + 8 * b.val + o.code)] := by
  cases o with
  | mhl => cases b <;> rfl
  | reg r => cases b <;> cases r <;> rfl

theorem encode_setOn (b : Num8) (o : Operand8) :
    encode (.setOn b o) = [0xCB#8, byteOf (0xC0 + 8 * b.val + o.code)] := by
  cases o with
  | mhl => cases b <;> rfl
  | reg r => cases b <;> cases r <;> rfl

/-- The four quarters of the extended table: one operation on one operand each. -/
def extendedOn : Bool → Bool → Num8 → Operand8 → Instr
  | false, false, y => .rotOn (rotOf y)
  | false, true, y => .bitOn y
  | true, false, y => .resOn y
  | true, true, y => .setOn y

theorem extended_eq (b : Byte) :
    extended b = extendedOn (b.getLsbD 7) (b.getLsbD 6) (fieldY b) (operandOf (fieldZ b)) := by
  unfold extended
  cases b.getLsbD 7 <;> cases b.getLsbD 6 <;> cases operandOf (fieldZ b) <;> rfl

theorem encode_extendedOn (b7 b6 : Bool) (y z : Num8) :
    encode (extendedOn b7 b6 y (operandOf z)) = [0xCB#8, byteOfFields b7 b6 y z] := by
  cases b7 <;> cases b6 <;>
    simp [extendedOn, byteOfFields, encode_rotOn, encode_bitOn, encode_resOn, encode_setOn,
      rotOf_code, operandOf_code]

theorem encode_extended (b : Byte) : encode (extended b) = [0xCB#8, b] := by
  rw [extended_eq, encode_extendedOn, byteOfFields_fields]

/-! ## The primary table (R80) -/

/-- The bytes a first byte asks for: as many of the three as its length (R71). -/
def bytesAsked (b0 b1 b2 : Byte) : List Byte := [b0, b1, b2].take (lengthByFirstByte b0)

theorem encode_primaryX0 (y z : Num8) (b1 b2 : Byte) :
    encode (primaryX0 y z b1 b2) = bytesAsked (byteOfFields false false y z) b1 b2 := by
  have hlo := loByte_mkWord b2 b1
  have hhi := hiByte_mkWord b2 b1
  unfold primaryX0
  generalize mkWord b2 b1 = n16 at hlo hhi ⊢
  subst hlo hhi
  cases z <;> cases y <;> rfl

theorem encode_primaryX1 (y z : Num8) (b1 b2 : Byte) :
    encode (primaryX1 y z) = bytesAsked (byteOfFields false true y z) b1 b2 := by
  cases y <;> cases z <;> rfl

theorem encode_primaryX2 (y z : Num8) (b1 b2 : Byte) :
    encode (primaryX2 y z) = bytesAsked (byteOfFields true false y z) b1 b2 := by
  cases y <;> cases z <;> rfl

theorem encode_primaryX3 (y z : Num8) (b1 b2 : Byte) :
    encode (primaryX3 y z b1 b2) = bytesAsked (byteOfFields true true y z) b1 b2 := by
  have hlo := loByte_mkWord b2 b1
  have hhi := hiByte_mkWord b2 b1
  unfold primaryX3
  generalize mkWord b2 b1 = a16 at hlo hhi ⊢
  subst hlo hhi
  cases z
  case n3 =>
    cases y
    case n1 => exact encode_extended (loByte a16)
    all_goals rfl
  all_goals cases y <;> rfl

theorem encode_decodeBytes (b0 b1 b2 : Byte) :
    encode (decodeBytes b0 b1 b2) = bytesAsked b0 b1 b2 := by
  have hb := byteOfFields_fields b0
  unfold decodeBytes
  cases h7 : b0.getLsbD 7 <;> cases h6 : b0.getLsbD 6 <;> rw [h7, h6] at hb
  · simpa only [hb] using encode_primaryX0 (fieldY b0) (fieldZ b0) b1 b2
  · simpa only [hb] using encode_primaryX1 (fieldY b0) (fieldZ b0) b1 b2
  · simpa only [hb] using encode_primaryX2 (fieldY b0) (fieldZ b0) b1 b2
  · simpa only [hb] using encode_primaryX3 (fieldY b0) (fieldZ b0) b1 b2

/-! ## The instruction at the head of a byte sequence -/

theorem lengthByFirstByte_cases (b0 : Byte) :
    lengthByFirstByte b0 = 1 ∨ lengthByFirstByte b0 = 2 ∨ lengthByFirstByte b0 = 3 := by
  unfold lengthByFirstByte
  split
  · simp
  · split <;> simp

/-- The instruction `decode` answers where the sequence is long enough (`decode_of_length_le`); bytes
that are missing are read as 0. -/
def headInstr : List Byte → Instr
  | [] => decodeBytes 0#8 0#8 0#8
  | b0 :: rest => decodeBytes b0 (rest.getD 0 0#8) (rest.getD 1 0#8)

theorem decode_of_lt_length {b0 : Byte} {rest : List Byte}
    (h : rest.length + 1 < lengthByFirstByte b0) : decode (b0 :: rest) = .error .truncated :=
  if_pos (by omega)

theorem decode_of_length_le {b0 : Byte} {rest : List Byte}
    (h : lengthByFirstByte b0 ≤ rest.length + 1) :
    decode (b0 :: rest) =
      .ok (headInstr (b0 :: rest), (b0 :: rest).drop (lengthByFirstByte b0)) := by
  have hlong : ¬ rest.length < lengthByFirstByte b0 - 1 := by omega
  refine (if_neg hlong).trans ?_
  obtain hn | hn | hn := lengthByFirstByte_cases b0 <;> rw [hn] <;> rfl

/-- A sequence that is long enough begins with the encoding of its instruction. -/
theorem encode_headInstr {b0 : Byte} {rest : List Byte}
    (h : lengthByFirstByte b0 ≤ rest.length + 1) :
    encode (headInstr (b0 :: rest)) = (b0 :: rest).take (lengthByFirstByte b0) := by
  refine (encode_decodeBytes b0 _ _).trans ?_
  unfold bytesAsked
  obtain hn | hn | hn := lengthByFirstByte_cases b0 <;> rw [hn] at h ⊢
  · rfl
  · match rest, h with
    | _ :: _, _ => rfl
  · match rest, h with
    | _ :: _ :: _, _ => rfl

/-- Every instruction stands in the grids at the bytes of its encoding; a word operand is put together
again from its two bytes (R79). -/
theorem headInstr_encode (i : Instr) : headInstr (encode i) = i := by
  cases i
  case ld_bc_n16 w | ld_de_n16 w | ld_hl_n16 w | ld_sp_n16 w | ld_ma16_sp w | ld_ma16_a w |
      ld_a_ma16 w | jp_a16 w | jp_nz_a16 w | jp_z_a16 w | jp_nc_a16 w | jp_c_a16 w | call_a16 w |
      call_nz_a16 w | call_z_a16 w | call_nc_a16 w | call_c_a16 w =>
    conv_rhs => rw [← mkWord_hiByte_loByte w]
    rfl
  all_goals rfl

theorem encode_injective : Function.Injective encode :=
  Function.LeftInverse.injective headInstr_encode

theorem bytesWellFormed_bytesAsked (b0 b1 b2 : Byte) :
    bytesWellFormed (bytesAsked b0 b1 b2) = true := by
  unfold bytesAsked
  obtain hn | hn | hn := lengthByFirstByte_cases b0 <;> simp [bytesWellFormed, hn]

theorem bytesWellFormed_encode (i : Instr) : bytesWellFormed (encode i) = true := by
  rw [← headInstr_encode i]
  cases encode i with
  | nil => exact encode_decodeBytes 0#8 0#8 0#8 ▸ bytesWellFormed_bytesAsked 0#8 0#8 0#8
  | cons b0 rest => exact encode_decodeBytes b0 _ _ ▸ bytesWellFormed_bytesAsked b0 _ _

theorem encode_eq_cons (i : Instr) :
    ∃ b0 rest, encode i = b0 :: rest ∧ (b0 :: rest).length = lengthByFirstByte b0 := by
  have hwf := bytesWellFormed_encode i
  cases h : encode i with
  | nil => simp [h, bytesWellFormed] at hwf
  | cons b0 rest => exact ⟨b0, rest, rfl, by simpa [h, bytesWellFormed] using hwf⟩

/-! ## Decoding and encoding are inverse -/

/-- Settles O1: what is decoded has the bytes of `encode i` as its encoding, so it is `i`. -/
theorem decodeInvertsEncode : Obligations.DecodeInvertsEncode := by
  intro i rest
  obtain ⟨b0, more, hi, hlen⟩ := encode_eq_cons i
  have hlong : lengthByFirstByte b0 ≤ (more ++ rest).length + 1 := by
    simp [← hlen]
  have hhead : headInstr (b0 :: (more ++ rest)) = i := by
    apply encode_injective
    rw [encode_headInstr hlong, hi, ← List.cons_append, List.take_left' hlen]
  rw [hi, List.cons_append, decode_of_length_le hlong, hhead, ← List.cons_append,
    List.drop_left' hlen]

theorem decode_eq_truncated_iff (b0 : Byte) (rest : List Byte) :
    decode (b0 :: rest) = .error .truncated ↔ rest.length + 1 < lengthByFirstByte b0 := by
  refine ⟨fun h => ?_, decode_of_lt_length⟩
  by_contra hlong
  simp [decode_of_length_le (Nat.le_of_not_lt hlong)] at h

theorem decode_eq_noBytes_iff (bytes : List Byte) :
    decode bytes = .error .noBytes ↔ bytes = [] := by
  cases bytes with
  | nil => simp [decode]
  | cons b0 rest =>
    obtain h | h := Nat.lt_or_ge (rest.length + 1) (lengthByFirstByte b0)
    · simp [decode_of_lt_length h]
    · simp [decode_of_length_le h]

theorem encode_append_of_decode {bytes rest : List Byte} {i : Instr}
    (h : decode bytes = .ok (i, rest)) : encode i ++ rest = bytes := by
  cases bytes with
  | nil => simp [decode] at h
  | cons b0 tail =>
    obtain hshort | hlong := Nat.lt_or_ge (tail.length + 1) (lengthByFirstByte b0)
    · simp [decode_of_lt_length hshort] at h
    · simp only [decode_of_length_le hlong, Except.ok.injEq, Prod.mk.injEq] at h
      obtain ⟨rfl, rfl⟩ := h
      rw [encode_headInstr hlong, List.take_append_drop]

/-- Settles O2: a sequence splits at the length its first byte asks for, and the part before is the
encoding of what is decoded. -/
theorem encodeInvertsDecode : Obligations.EncodeInvertsDecode :=
  ⟨fun _ i _ h => ⟨encode_append_of_decode h, bytesWellFormed_encode i⟩, decode_eq_truncated_iff,
    decode_eq_noBytes_iff⟩

/-- Settles O3: each of the words is the encoding of its instruction, with the bytes left over. -/
theorem decodedWords : Obligations.DecodedWords :=
  ⟨decodeInvertsEncode .nop [], decodeInvertsEncode .ld_b_c [], decodeInvertsEncode .halt [],
    decodeInvertsEncode (.ld_hl_n16 0x0150#16) [], decodeInvertsEncode (.jr_nz_e8 0xFA#8) [0x76#8],
    decodeInvertsEncode (.ld_ma16_a 0xC100#16) [], decodeInvertsEncode (.ldh_ma8_a 0x46#8) [],
    decodeInvertsEncode .sbc_a_mhl [], decodeInvertsEncode (.ld_hl_spe8 0x80#8) [],
    decodeInvertsEncode .rst_38h [], decodeInvertsEncode .swap_a [],
    decodeInvertsEncode .bit_7_mhl [], decodeInvertsEncode .invalid_dd []⟩

end Sys2Proof.Machine
end

section
/-! PROOFS. 8-bit loads (R87 to R105). What it is to complete, and the frames the statements use,
said once for the operations of the state; then one lemma for each of the four shared meanings
(`loadReg`, `storeByte`, `loadStepHl`, `storeStepHl`), and every instruction is an instance. -/

namespace Sys2Proof.Machine

/-! ## Frames -/

@[simp] theorem State.reg_eq (s : State) (r : Reg8) : s.reg r = s.cpu.reg r := rfl

@[simp] theorem State.pair_eq (s : State) (p : Pair) : s.pair p = s.cpu.pair p := rfl

@[simp] theorem State.setReg_cpu (s : State) (r : Reg8) (v : Byte) :
    (s.setReg r v).cpu = s.cpu.setReg r v := rfl

@[simp] theorem State.setPair_cpu (s : State) (p : Pair) (v : Word) :
    (s.setPair p v).cpu = s.cpu.setPair p v := rfl

theorem State.withCpu_eq_withCpu_iff (u w : State) (c : Cpu) :
    u.withCpu c = w.withCpu c ↔ u = w.withCpu u.cpu :=
  ⟨congrArg fun t => State.withCpu t u.cpu, congrArg fun t => State.withCpu t c⟩

@[simp] theorem keepsRegs_refl (l : List Reg8) (s : State) : KeepsRegs l s s := fun _ _ => rfl

@[simp] theorem keepsRegs_busWrite (l : List Reg8) (s u : State) (a : Word) (v : Byte) :
    KeepsRegs l s (busWrite a v u) ↔ KeepsRegs l s u := by simp [KeepsRegs]

theorem KeepsRegs.setReg {l : List Reg8} {s u : State} (h : KeepsRegs l s u) {r : Reg8} (hr : r ∈ l)
    (v : Byte) : KeepsRegs l s (u.setReg r v) := fun q hq =>
  (Cpu.reg_setReg_ne u.cpu v (ne_of_mem_of_not_mem hr hq).symm).trans (h q hq)

theorem KeepsRegs.setPair {l : List Reg8} {s u : State} (h : KeepsRegs l s u) {p : Pair}
    (hp : pairRegs p ⊆ l) (v : Word) : KeepsRegs l s (u.setPair p v) := fun q hq => by
  refine (Cpu.reg_setPair u.cpu p v q ?_).trans (h q hq)
  have hq' : q ∉ pairRegs p := fun hmem => hq (hp hmem)
  cases p with
  | sp => trivial
  | _ => simpa [pairRegs] using hq'

/-- Moving `pc` and counting cycles changes no register. -/
theorem KeepsRegs.retire {l : List Reg8} {s u : State} (h : KeepsRegs l s u) (pc : Word)
    (k n : Nat) : KeepsRegs l s (u.withCpu ((u.cpu.withPc pc).retire k n)) :=
  fun q hq => by simpa using h q hq

@[simp] theorem keepsFlagsSp_refl (s : State) : KeepsFlagsSp s s := ⟨rfl, rfl⟩

@[simp] theorem keepsFlagsSp_withCpu (s u : State) (c : Cpu) :
    KeepsFlagsSp s (u.withCpu c) ↔ c.f = s.cpu.f ∧ c.sp = s.cpu.sp := Iff.rfl

@[simp] theorem noStore_refl (s : State) : NoStore s s := ⟨fun _ => rfl, rfl⟩

/-- Changes of the CPU store nothing (R64). -/
@[simp] theorem noStore_withCpu (s u : State) (c : Cpu) : NoStore s (u.withCpu c) ↔ NoStore s u :=
  and_congr_right fun _ => State.withCpu_eq_withCpu_iff u _ c

@[simp] theorem noStore_setReg (s u : State) (r : Reg8) (v : Byte) :
    NoStore s (u.setReg r v) ↔ NoStore s u := noStore_withCpu s u _

@[simp] theorem noStore_setPair (s u : State) (p : Pair) (v : Word) :
    NoStore s (u.setPair p v) ↔ NoStore s u := noStore_withCpu s u _

/-- A bus write stores its byte, seen where `storeReaches` says (R54). -/
@[simp] theorem storesByte_busWrite (a : Word) (v : Byte) (s : State) :
    StoresByte a v s (busWrite a v s) := ⟨writeFrame s a v, rfl⟩

@[simp] theorem storesByte_withCpu (a : Word) (v : Byte) (s u : State) (c : Cpu) :
    StoresByte a v s (u.withCpu c) ↔ StoresByte a v s u :=
  and_congr_right fun _ => State.withCpu_eq_withCpu_iff u _ c

@[simp] theorem storesByte_setPair (a : Word) (v : Byte) (s u : State) (p : Pair) (w : Word) :
    StoresByte a v s (u.setPair p w) ↔ StoresByte a v s u := storesByte_withCpu a v s u _

/-! ## Completing -/

/-- An instruction completes with `post` if it retires from a state with `post`, where `post` asks
nothing of `pc` and the cycle counter. -/
theorem completes_of_retire {i : Instr} {s u : State} {pc : Word} {n : Nat} {post : State → Prop}
    (he : exec i s = .next (u.withCpu ((u.cpu.withPc pc).retire u.params.clock n)))
    (hu : SameClock s u) (hpost : ∀ pc k n, post (u.withCpu ((u.cpu.withPc pc).retire k n))) :
    Completes i s pc n post := by
  obtain ⟨hcycle, hlaunch⟩ := hu
  exact ⟨_, he, rfl, rfl, by simp [hcycle, hlaunch], hpost _ _ _⟩

/-- The same for an instruction that goes on to the next one. -/
theorem completesIn_of_complete {i : Instr} {s u : State} {length table : Nat} {post : State → Prop}
    (he : exec i s = complete length (s.cyclesOf i table) u) (hpc : u.cpu.pc = s.cpu.pc)
    (hu : SameClock s u) (hpost : ∀ pc k n, post (u.withCpu ((u.cpu.withPc pc).retire k n))) :
    CompletesIn i s (s.cpu.pc + BitVec.ofNat 16 length) table post :=
  completes_of_retire (by rw [he, complete_eq, hpc]) hu hpost

/-! ## The four meanings -/

theorem loadsByte_of_loadReg {i : Instr} {bytes : List Byte} {dst : Reg8} {v : State → Byte}
    {length table : Nat} (henc : encode i = bytes)
    (he : ∀ s, exec i s = loadReg dst (v s) length (s.cyclesOf i table) s) :
    LoadsByte i bytes dst v (BitVec.ofNat 16 length) table := by
  refine ⟨henc, fun s => completesIn_of_complete (he s) (by simp) (by simp) fun pc k n => ?_⟩
  have hregs := (keepsRegs_refl [dst] s).setReg (List.mem_singleton_self dst) (v s)
  exact ⟨by simp, hregs.retire pc k n, by simp, by simp, by simp⟩

theorem storesFrom_of_storeByte {i : Instr} {bytes : List Byte} {a : State → Word}
    {v : State → Byte} {length table : Nat} (henc : encode i = bytes)
    (he : ∀ s, exec i s = storeByte (a s) (v s) length (s.cyclesOf i table) s) :
    StoresFrom i bytes a v (BitVec.ofNat 16 length) table := by
  refine ⟨henc, fun s => completesIn_of_complete (he s) (by simp) (by simp) fun pc k n => ?_⟩
  have hregs : KeepsRegs [] s (busWrite (a s) (v s) s) := by simp
  exact ⟨hregs.retire pc k n, by simp, by simp, by simp⟩

theorem completesIn_of_loadStepHl {i : Instr} {s : State} {d : Word} {table : Nat}
    (he : exec i s = loadStepHl d (s.cyclesOf i table) s) :
    CompletesIn i s (s.cpu.pc + 1#16) table (fun t =>
      t.cpu.a = busRead (s.cpu.pair .hl) s ∧ t.cpu.pair .hl = s.cpu.pair .hl + d ∧
      KeepsRegs [.a, .h, .l] s t ∧ KeepsFlagsSp s t ∧ KeepsControl s t ∧ NoStore s t) := by
  refine completesIn_of_complete he (by simp) (by simp) fun pc k n => ?_
  have hload := (keepsRegs_refl [.a, .h, .l] s).setReg (r := .a) (by simp) (busRead (s.pair .hl) s)
  have hregs := hload.setPair (p := .hl) (by simp [pairRegs]) (s.pair .hl + d)
  exact ⟨rfl, by simp, hregs.retire pc k n, by simp [Cpu.setPair_sp], by simp, by simp⟩

theorem completesIn_of_storeStepHl {i : Instr} {s : State} {d : Word} {table : Nat}
    (he : exec i s = storeStepHl d (s.cyclesOf i table) s) :
    CompletesIn i s (s.cpu.pc + 1#16) table (fun t =>
      t.cpu.pair .hl = s.cpu.pair .hl + d ∧
      KeepsRegs [.h, .l] s t ∧ KeepsFlagsSp s t ∧ KeepsControl s t ∧
      StoresByte (s.cpu.pair .hl) s.cpu.a s t) := by
  refine completesIn_of_complete he (by simp) (by simp) fun pc k n => ?_
  have hwrite : KeepsRegs [.h, .l] s (busWrite (s.pair .hl) (s.reg .a) s) := by simp
  have hregs := hwrite.setPair (p := .hl) (List.Subset.refl _) (s.pair .hl + d)
  exact ⟨by simp, hregs.retire pc k n, by simp [Cpu.setPair_sp], by simp, by simp [Cpu.reg]⟩

/-! ## The register families -/

theorem encode_ldRegReg (r r' : Reg8) :
    encode (.ldRegReg r r') = [byteOf (0x40 + 8 * r.code + r'.code)] := by
  cases r <;> cases r' <;> rfl

theorem exec_ldRegReg (r r' : Reg8) (s : State) :
    exec (.ldRegReg r r') s = loadReg r (s.cpu.reg r') 1 (s.cyclesOf (.ldRegReg r r') 1) s := by
  cases r <;> cases r' <;> rfl

theorem encode_ldRegImm (r : Reg8) (n8 : Byte) :
    encode (.ldRegImm r n8) = [byteOf (0x06 + 8 * r.code), n8] := by cases r <;> rfl

theorem exec_ldRegImm (r : Reg8) (n8 : Byte) (s : State) :
    exec (.ldRegImm r n8) s = loadReg r n8 2 (s.cyclesOf (.ldRegImm r n8) 2) s := by
  cases r <;> rfl

theorem encode_ldRegMem (r : Reg8) : encode (.ldRegMem r) = [byteOf (0x46 + 8 * r.code)] := by
  cases r <;> rfl

theorem exec_ldRegMem (r : Reg8) (s : State) :
    exec (.ldRegMem r) s =
      loadReg r (busRead (s.cpu.pair .hl) s) 1 (s.cyclesOf (.ldRegMem r) 2) s := by
  cases r <;> rfl

theorem encode_ldMemReg (r : Reg8) : encode (.ldMemReg r) = [byteOf (0x70 + r.code)] := by
  cases r <;> rfl

theorem exec_ldMemReg (r : Reg8) (s : State) :
    exec (.ldMemReg r) s =
      storeByte (s.cpu.pair .hl) (s.cpu.reg r) 1 (s.cyclesOf (.ldMemReg r) 2) s := by
  cases r <;> rfl

/-- The high page on numbers: an offset never carries out of it (R79, R98). -/
theorem highPage_eq (offset : Byte) :
    highPage offset = BitVec.ofNat 16 (0xFF00 + offset.toNat) := by
  apply BitVec.eq_of_toNat_eq
  simp [highPage, zext16]

/-! ## The statements -/

/-- Settles O10: each form is `loadReg` of its source byte. -/
theorem loadByteIntoRegister : Obligations.LoadByteIntoRegister :=
  ⟨fun r r' => loadsByte_of_loadReg (encode_ldRegReg r r') (exec_ldRegReg r r'),
    fun r n8 => loadsByte_of_loadReg (encode_ldRegImm r n8) (exec_ldRegImm r n8),
    fun r => loadsByte_of_loadReg (encode_ldRegMem r) (exec_ldRegMem r),
    loadsByte_of_loadReg rfl fun _ => rfl,
    loadsByte_of_loadReg rfl fun _ => rfl,
    fun _ => loadsByte_of_loadReg rfl fun _ => rfl,
    loadsByte_of_loadReg rfl fun s => highPage_eq s.cpu.c ▸ rfl,
    fun a8 => loadsByte_of_loadReg rfl fun _ => highPage_eq a8 ▸ rfl⟩

/-- Settles O11: each form is `storeByte` at its address. -/
theorem storeByteForms : Obligations.StoreByte :=
  ⟨fun r => storesFrom_of_storeByte (encode_ldMemReg r) (exec_ldMemReg r),
    fun _ => storesFrom_of_storeByte rfl fun _ => rfl,
    storesFrom_of_storeByte rfl fun _ => rfl,
    storesFrom_of_storeByte rfl fun _ => rfl,
    fun _ => storesFrom_of_storeByte rfl fun _ => rfl,
    storesFrom_of_storeByte rfl fun s => highPage_eq s.cpu.c ▸ rfl,
    fun a8 => storesFrom_of_storeByte rfl fun _ => highPage_eq a8 ▸ rfl⟩

/-- Settles O12: the two loads are `loadStepHl`, the two stores `storeStepHl`, by one up and down. -/
theorem loadAndStoreSteppingHl : Obligations.LoadAndStoreSteppingHl := by
  refine ⟨rfl, rfl, rfl, rfl, fun s => ⟨?_, ?_⟩⟩
  · simpa only [List.forall_mem_cons] using
      ⟨completesIn_of_loadStepHl (i := .ld_a_mhli) rfl,
        completesIn_of_loadStepHl (i := .ld_a_mhld) rfl, List.forall_mem_nil _⟩
  · simpa only [List.forall_mem_cons] using
      ⟨completesIn_of_storeStepHl (i := .ld_mhli_a) rfl,
        completesIn_of_storeStepHl (i := .ld_mhld_a) rfl, List.forall_mem_nil _⟩

end Sys2Proof.Machine
end

section
/-! PROOFS. 16-bit loads and the stack (R106 to R114, R152): the frames of a changed pair, of the four
flags, of two stores and of a push; then one lemma for each shared meaning (`loadPair`, `storeSp`,
`spSum`, `pushPair`, `popPair`), and each instruction is one of them. -/

namespace Sys2Proof.Machine

/-! ## Frames -/

theorem KeepsRegs.withSp {l : List Reg8} {s u : State} (h : KeepsRegs l s u) (v : Word) :
    KeepsRegs l s (u.withCpu (u.cpu.withSp v)) :=
  fun q hq => by simpa using h q hq

@[simp] theorem State.setFlags_cpu (s : State) (z n h c : Bool) :
    (s.setFlags z n h c).cpu = s.cpu.setFlags z n h c := rfl

theorem KeepsRegs.setFlags {l : List Reg8} {s u : State} (h : KeepsRegs l s u) (z n hc c : Bool) :
    KeepsRegs l s (u.setFlags z n hc c) :=
  fun q hq => by simpa using h q hq

@[simp] theorem noStore_setFlags (s u : State) (z n h c : Bool) :
    NoStore s (u.setFlags z n h c) ↔ NoStore s u := noStore_withCpu s u _

theorem pairBecomes_setPair (p : Pair) (v : Word) (s : State) : PairBecomes p v s (s.setPair p v) :=
  ⟨by simp, (keepsRegs_refl _ s).setPair (List.Subset.refl _) v, Cpu.setPair_sp s.cpu v⟩

theorem PairBecomes.setFlags {p : Pair} {v : Word} {s u : State} (h : PairBecomes p v s u)
    (z n hc c : Bool) : PairBecomes p v s (u.setFlags z n hc c) := by
  obtain ⟨hpair, hregs, hsp⟩ := h
  exact ⟨by simpa using hpair, hregs.setFlags z n hc c, hsp⟩

theorem PairBecomes.retire {p : Pair} {v : Word} {s u : State} (h : PairBecomes p v s u) (pc : Word)
    (k n : Nat) : PairBecomes p v s (u.withCpu ((u.cpu.withPc pc).retire k n)) := by
  obtain ⟨hpair, hregs, hsp⟩ := h
  exact ⟨by simpa using hpair, hregs.retire pc k n, hsp⟩

@[simp] theorem flagsAre_setFlags {pz pn ph pc : Prop} (u : State) (z n h c : Bool) :
    FlagsAre pz pn ph pc (u.setFlags z n h c) ↔
      (z = true ↔ pz) ∧ (n = true ↔ pn) ∧ (h = true ↔ ph) ∧ (c = true ↔ pc) := by
  simp [FlagsAre]

/-- Moving `pc` and counting cycles changes no flag. -/
theorem FlagsAre.retire {z n h c : Prop} {u : State} (hu : FlagsAre z n h c u) (pc : Word)
    (k m : Nat) : FlagsAre z n h c (u.withCpu ((u.cpu.withPc pc).retire k m)) := hu

/-- An address that neither of two writes reaches reads as before both. -/
@[simp] theorem storesTwo_busWrite (a1 a2 : Word) (v1 v2 : Byte) (s : State) :
    StoresTwo a1 v1 a2 v2 s (busWrite a2 v2 (busWrite a1 v1 s)) :=
  ⟨fun x h1 h2 => (writeFrame _ a2 v2 x h2).trans (writeFrame s a1 v1 x h1), rfl⟩

@[simp] theorem storesTwo_withCpu (a1 a2 : Word) (v1 v2 : Byte) (s u : State) (c : Cpu) :
    StoresTwo a1 v1 a2 v2 s (u.withCpu c) ↔ StoresTwo a1 v1 a2 v2 s u :=
  and_congr_right fun _ => State.withCpu_eq_withCpu_iff u _ c

/-- `Push16` stores the high byte, then the low byte below it (R106). -/
theorem pushes_push16 (v : Word) (s : State) : Pushes v s (push16 v s) :=
  ⟨by simp, by simp [push16_eq]⟩

theorem Pushes.retire {v : Word} {s u : State} (h : Pushes v s u) (pc : Word) (k n : Nat) :
    Pushes v s (u.withCpu ((u.cpu.withPc pc).retire k n)) := by
  obtain ⟨hsp, hstores⟩ := h
  exact ⟨hsp, (storesTwo_withCpu ..).2 hstores⟩

theorem keepsRegs_push16 (l : List Reg8) (v : Word) (s : State) : KeepsRegs l s (push16 v s) :=
  fun q _ => by simp

/-! ## Loading a pair and storing `SP` -/

theorem completesIn_of_loadPair {i : Instr} {s : State} {p : Pair} {v : Word} {length table : Nat}
    (he : exec i s = loadPair p v length (s.cyclesOf i table) s) :
    CompletesIn i s (s.cpu.pc + BitVec.ofNat 16 length) table (fun t =>
      PairBecomes p v s t ∧ t.cpu.f = s.cpu.f ∧ KeepsControl s t ∧ NoStore s t) := by
  refine completesIn_of_complete he (by simp) (by simp) fun pc k n => ?_
  exact ⟨(pairBecomes_setPair p v s).retire pc k n, by simp, by simp, by simp⟩

theorem completesIn_of_storeSp {i : Instr} {s : State} {a : Word} {length table : Nat}
    (he : exec i s = storeSp a length (s.cyclesOf i table) s) :
    CompletesIn i s (s.cpu.pc + BitVec.ofNat 16 length) table (fun t =>
      KeepsRegs [] s t ∧ KeepsFlagsSp s t ∧ KeepsControl s t ∧
      StoresTwo a (loByte s.cpu.sp) (a + 1#16) (hiByte s.cpu.sp) s t) := by
  refine completesIn_of_complete he (by simp) (by simp) fun pc k n => ?_
  have hregs : KeepsRegs [] s
      (busWrite (a + 1#16) (hiByte s.cpu.sp) (busWrite a (loByte s.cpu.sp) s)) := by simp
  exact ⟨hregs.retire pc k n, by simp, by simp, by simp⟩

theorem encode_ldPairImm (p : Pair) (n16 : Word) :
    encode (.ldPairImm p n16) = [byteOf (0x01 + 16 * p.code), loByte n16, hiByte n16] := by
  cases p <;> rfl

theorem exec_ldPairImm (p : Pair) (n16 : Word) (s : State) :
    exec (.ldPairImm p n16) s = loadPair p n16 3 (s.cyclesOf (.ldPairImm p n16) 3) s := by
  cases p <;> rfl

/-- Settles O13: `LD rr,n16` and `LD SP,HL` are `loadPair`, `LD (a16),SP` is `storeSp`. -/
theorem loadPairAndStoreSp : Obligations.LoadPairAndStoreSp := by
  refine ⟨fun p n16 => ⟨encode_ldPairImm p n16, fun s => ?_⟩, fun a16 => ⟨rfl, fun s => ?_⟩,
    rfl, fun s => ?_⟩
  · exact completesIn_of_loadPair (exec_ldPairImm p n16 s)
  · exact completesIn_of_storeSp (length := 3) rfl
  · obtain ⟨t, he, hpc, hspent, hcycle, ⟨hsp, hregs, -⟩, hrest⟩ :=
      completesIn_of_loadPair (i := .ld_sp_hl) (s := s) (p := .sp) (length := 1) (table := 2) rfl
    exact ⟨t, he, hpc, hspent, hcycle, hsp, hregs, hrest⟩

/-! ## `SP` plus a displacement -/

/-- `SP + sext_16(e8)` is the sum of the integers modulo 65536. -/
theorem spPlus_eq_ofInt (sp : Word) (e8 : Byte) :
    spPlus sp e8 = BitVec.ofInt 16 ((sp.toNat : Int) + e8.toInt) := by
  simp [spPlus, sext16, BitVec.signExtend, BitVec.ofInt_add]

/-- The masks of `halfCarrySp` are remainders. -/
theorem halfCarrySp_iff (sp : Word) (e8 : Byte) :
    halfCarrySp sp e8 = true ↔ sp.toNat % 16 + e8.toNat % 16 > 15 := by
  have hsp : sp.toNat &&& 15 = sp.toNat % 16 := Nat.and_two_pow_sub_one_eq_mod _ 4
  have he8 : e8.toNat &&& 15 = e8.toNat % 16 := Nat.and_two_pow_sub_one_eq_mod _ 4
  simp [halfCarrySp, hsp, he8]

/-- The mask of `carrySp` is a remainder. -/
theorem carrySp_iff (sp : Word) (e8 : Byte) :
    carrySp sp e8 = true ↔ sp.toNat % 256 + e8.toNat > 255 := by
  have hsp : sp.toNat &&& 255 = sp.toNat % 256 := Nat.and_two_pow_sub_one_eq_mod _ 8
  simp [carrySp, hsp]

theorem completesIn_of_spSum {i : Instr} {s : State} {p : Pair} {e8 : Byte} {length table : Nat}
    (he : exec i s = spSum p e8 length (s.cyclesOf i table) s) :
    CompletesIn i s (s.cpu.pc + BitVec.ofNat 16 length) table (fun t =>
      PairBecomes p (BitVec.ofInt 16 ((s.cpu.sp.toNat : Int) + e8.toInt)) s t ∧
      FlagsAre False False (s.cpu.sp.toNat % 16 + e8.toNat % 16 > 15)
        (s.cpu.sp.toNat % 256 + e8.toNat > 255) t ∧
      KeepsControl s t ∧ NoStore s t) := by
  refine completesIn_of_complete he (by simp) (by simp) fun pc k n => ?_
  have hpair := (pairBecomes_setPair p (spPlus s.cpu.sp e8) s).setFlags false false
    (halfCarrySp s.cpu.sp e8) (carrySp s.cpu.sp e8)
  have hflags := (flagsAre_setFlags (s.setPair p (spPlus s.cpu.sp e8)) false false _ _).2
    ⟨Bool.false_eq_true.to_iff, Bool.false_eq_true.to_iff, halfCarrySp_iff s.cpu.sp e8,
      carrySp_iff s.cpu.sp e8⟩
  rw [← spPlus_eq_ofInt]
  exact ⟨hpair.retire pc k n, hflags.retire pc k n, by simp, by simp⟩

/-- Settles O14: both are `spSum`, into `HL` and into `SP`. -/
theorem spPlusDisplacement : Obligations.SpPlusDisplacement := fun e8 =>
  ⟨rfl, rfl, fun _ =>
    ⟨completesIn_of_spSum (i := .ld_hl_spe8 e8) (length := 2) rfl,
      completesIn_of_spSum (i := .add_sp_e8 e8) (length := 2) rfl⟩⟩

/-! ## Pushing and popping -/

theorem encode_push (q : StackPair) : encode (.push q) = [byteOf (0xC5 + 16 * q.code)] := by
  cases q <;> rfl

theorem exec_push (q : StackPair) (s : State) :
    exec (.push q) s = pushPair q (s.cyclesOf (.push q) 4) s := by cases q <;> rfl

theorem encode_pop (q : StackPair) : encode (.pop q) = [byteOf (0xC1 + 16 * q.code)] := by
  cases q <;> rfl

theorem exec_pop (q : StackPair) (s : State) :
    exec (.pop q) s = popPair q (s.cyclesOf (.pop q) 3) s := by cases q <;> rfl

theorem completesIn_push (q : StackPair) (s : State) :
    CompletesIn (.push q) s (s.cpu.pc + 1#16) 4 (fun t =>
      Pushes (s.cpu.stackPair q) s t ∧ KeepsRegs [] s t ∧ t.cpu.f = s.cpu.f ∧ KeepsControl s t) := by
  refine completesIn_of_complete (exec_push q s) (by simp) (by simp) fun pc k n => ?_
  exact ⟨(pushes_push16 _ s).retire pc k n, (keepsRegs_push16 [] _ s).retire pc k n, by simp,
    by simp⟩

/-- `POP` goes on from the popped state, `SP` grown by 2, with the pair written (R113). -/
theorem exec_pop_eq_complete (q : StackPair) (s : State) :
    exec (.pop q) s = complete 1 (s.cyclesOf (.pop q) 3)
      (s.withCpu ((s.cpu.withSp (s.cpu.sp + 2#16)).setStackPair q (topWord s))) := by
  rw [exec_pop, popPair, popState_eq]
  rfl

/-- `POP` of a pair that is not `AF` writes it as any other write of the pair does. -/
theorem completesIn_pop_of_pair {q : StackPair} {p : Pair} (hp : p ≠ .sp)
    (hset : ∀ (c : Cpu) (v : Word), c.setStackPair q v = c.setPair p v) (s : State) :
    CompletesIn (.pop q) s (s.cpu.pc + 1#16) 3 (fun t =>
      t.cpu.pair p = topWord s ∧ t.cpu.sp = s.cpu.sp + 2#16 ∧ KeepsRegs (pairRegs p) s t ∧
      t.cpu.f = s.cpu.f ∧ KeepsControl s t ∧ NoStore s t) := by
  have he := exec_pop_eq_complete q s
  rw [hset] at he
  refine completesIn_of_complete he (by simp) (by simp) fun pc k n => ?_
  have hpop := (keepsRegs_refl (pairRegs p) s).withSp (s.cpu.sp + 2#16)
  have hregs := hpop.setPair (List.Subset.refl _) (topWord s)
  exact ⟨by simp, by simp [Cpu.setPair_sp _ _ hp], hregs.retire pc k n, by simp, by simp, by simp⟩

/-- `POP AF` writes `A` and, through its mask, `F` (R18, R114). -/
theorem completesIn_pop_af (s : State) :
    CompletesIn (.pop .af) s (s.cpu.pc + 1#16) 3 (fun t =>
      t.cpu.a = hiByte (topWord s) ∧ t.cpu.f = loByte (topWord s) &&& 0xF0#8 ∧
      t.cpu.sp = s.cpu.sp + 2#16 ∧ KeepsRegs [.a] s t ∧ KeepsControl s t ∧ NoStore s t) := by
  refine completesIn_of_complete (exec_pop_eq_complete .af s) (by simp) (by simp) fun pc k n => ?_
  have hpop := (keepsRegs_refl [.a] s).withSp (s.cpu.sp + 2#16)
  have hregs := hpop.setReg (List.mem_singleton_self Reg8.a) (hiByte (topWord s))
  have hmask : KeepsRegs [.a] s (s.withCpu
      ((s.cpu.withSp (s.cpu.sp + 2#16)).setStackPair .af (topWord s))) :=
    fun q hq => (Cpu.setF_reg _ _ q).trans (hregs q hq)
  exact ⟨rfl, rfl, rfl, hmask.retire pc k n, by simp, by simp⟩

/-- Settles O15: `PUSH` is `Push16` of the pair, `POP` writes the pair from the top of the stack. -/
theorem pushAndPop : Obligations.PushAndPop := by
  refine ⟨fun q => ⟨encode_push q, completesIn_push q⟩, encode_pop, ?_, completesIn_pop_af⟩
  simpa only [List.forall_mem_cons] using
    ⟨completesIn_pop_of_pair (q := .bc) (p := .bc) (by decide) fun _ _ => rfl,
      completesIn_pop_of_pair (q := .de) (p := .de) (by decide) fun _ _ => rfl,
      completesIn_pop_of_pair (q := .hl) (p := .hl) (by decide) fun _ _ => rfl,
      List.forall_mem_nil _⟩

end Sys2Proof.Machine
end

section
/-! PROOFS. 8-bit arithmetic and logic (R115 to R148). The flags of an operation's result, said once
for the states they are written to; one lemma for each of the three ways such an instruction ends (the
result in `A`, the flags alone, the result in the operand it came from); then the results themselves
on numbers (`add8`, `sub8`, `inc8`, `dec8`, `daa8`). -/

namespace Sys2Proof.Machine

/-! ## Frames -/

/-- What the four flags of a result say. -/
def AluOut.FlagsMean (r : AluOut) (z n h c : Prop) : Prop :=
  (r.z = true ↔ z) ∧ (r.n = true ↔ n) ∧ (r.h = true ↔ h) ∧ (r.c = true ↔ c)

/-- The flags of a state are those of the result written to it. -/
@[simp] theorem flagsAre_setAluFlags {z n h c : Prop} (u : State) (r : AluOut) :
    FlagsAre z n h c (u.setAluFlags r) ↔ r.FlagsMean z n h c :=
  flagsAre_setFlags u r.z r.n r.h r.c

@[simp] theorem State.setAluFlags_cpu (s : State) (r : AluOut) :
    (s.setAluFlags r).cpu = s.cpu.setFlags r.z r.n r.h r.c := rfl

theorem KeepsRegs.setAluFlags {l : List Reg8} {s u : State} (h : KeepsRegs l s u) (r : AluOut) :
    KeepsRegs l s (u.setAluFlags r) :=
  h.setFlags r.z r.n r.h r.c

@[simp] theorem noStore_setAluFlags (s u : State) (r : AluOut) :
    NoStore s (u.setAluFlags r) ↔ NoStore s u := noStore_setFlags s u _ _ _ _

@[simp] theorem State.setOperand_pc (s : State) (o : Operand8) (v : Byte) :
    (s.setOperand o v).cpu.pc = s.cpu.pc := by
  cases o <;> simp [State.setOperand]

@[simp] theorem State.setOperand_sp (s : State) (o : Operand8) (v : Byte) :
    (s.setOperand o v).cpu.sp = s.cpu.sp := by
  cases o <;> simp [State.setOperand]

theorem operandBecomes_setOperand (o : Operand8) (v : Byte) (s : State) :
    OperandBecomes o v s (s.setOperand o v) := by
  cases o with
  | reg r =>
    have hregs := (keepsRegs_refl [r] s).setReg (List.mem_singleton_self r) v
    exact ⟨Cpu.reg_setReg_self s.cpu r v, hregs, (noStore_setReg s s r v).2 (noStore_refl s)⟩
  | mhl => exact ⟨(keepsRegs_busWrite ..).2 (keepsRegs_refl [] s), storesByte_busWrite ..⟩

/-- Changing neither a register nor anything outside the CPU keeps the frame of an operand. -/
theorem OperandBecomes.withCpu {o : Operand8} {v : Byte} {s u : State} (h : OperandBecomes o v s u)
    {c : Cpu} (hc : ∀ q, c.reg q = u.cpu.reg q) : OperandBecomes o v s (u.withCpu c) := by
  cases o with
  | reg r =>
    obtain ⟨hval, hregs, hstore⟩ := h
    exact ⟨(hc r).trans hval, fun q hq => (hc q).trans (hregs q hq), (noStore_withCpu s u c).2 hstore⟩
  | mhl =>
    obtain ⟨hregs, hstore⟩ := h
    exact ⟨fun q hq => (hc q).trans (hregs q hq), (storesByte_withCpu _ v s u c).2 hstore⟩

theorem OperandBecomes.setAluFlags {o : Operand8} {v : Byte} {s u : State}
    (h : OperandBecomes o v s u) (r : AluOut) : OperandBecomes o v s (u.setAluFlags r) :=
  h.withCpu fun q => Cpu.setFlags_reg u.cpu r.z r.n r.h r.c q

theorem OperandBecomes.retire {o : Operand8} {v : Byte} {s u : State} (h : OperandBecomes o v s u)
    (pc : Word) (k n : Nat) : OperandBecomes o v s (u.withCpu ((u.cpu.withPc pc).retire k n)) :=
  h.withCpu fun q => by simp

/-! ## How the instructions end -/

theorem CompletesIn.imp {i : Instr} {s : State} {pc : Word} {table : Nat} {p q : State → Prop}
    (h : CompletesIn i s pc table p) (hpq : ∀ t, p t → q t) : CompletesIn i s pc table q := by
  obtain ⟨t, he, hpc, hspent, hcycle, hp⟩ := h
  exact ⟨t, he, hpc, hspent, hcycle, hpq t hp⟩

/-- The result goes to `A` and the flags. -/
theorem completesIn_of_resultInA {i : Instr} {s : State} {r : AluOut} {length table : Nat}
    {z n h c : Prop} (hr : r.FlagsMean z n h c)
    (he : exec i s =
      complete length (s.cyclesOf i table) ((s.setReg .a r.val).setAluFlags r)) :
    CompletesIn i s (s.cpu.pc + BitVec.ofNat 16 length) table (fun t =>
      t.cpu.a = r.val ∧ FlagsAre z n h c t ∧
      KeepsRegs [.a] s t ∧ t.cpu.sp = s.cpu.sp ∧ KeepsControl s t ∧ NoStore s t) := by
  refine completesIn_of_complete he (by simp) (by simp) fun pc k m => ?_
  have hflags := (flagsAre_setAluFlags (s.setReg .a r.val) r).2 hr
  have hregs := (keepsRegs_refl [.a] s).setReg (List.mem_singleton_self Reg8.a) r.val
  exact ⟨rfl, hflags.retire pc k m, (hregs.setAluFlags r).retire pc k m, by simp, by simp, by simp⟩

/-- The same where `Z` says that the result is 0. -/
theorem completesIn_of_resultInA_zero {i : Instr} {s : State} {r : AluOut} {length table : Nat}
    {n h c : Prop} (hr : r.FlagsMean (r.val = 0#8) n h c)
    (he : exec i s =
      complete length (s.cyclesOf i table) ((s.setReg .a r.val).setAluFlags r)) :
    CompletesIn i s (s.cpu.pc + BitVec.ofNat 16 length) table (fun t =>
      t.cpu.a = r.val ∧ FlagsAre (t.cpu.a = 0#8) n h c t ∧
      KeepsRegs [.a] s t ∧ t.cpu.sp = s.cpu.sp ∧ KeepsControl s t ∧ NoStore s t) :=
  (completesIn_of_resultInA hr he).imp fun _ ⟨ha, hflags, hrest⟩ => ⟨ha, ha.symm ▸ hflags, hrest⟩

/-- The flags alone are written. -/
theorem completesIn_of_flagsOnly {i : Instr} {s : State} {r : AluOut} {length table : Nat}
    {z n h c : Prop} (hr : r.FlagsMean z n h c)
    (he : exec i s = complete length (s.cyclesOf i table) (s.setAluFlags r)) :
    CompletesIn i s (s.cpu.pc + BitVec.ofNat 16 length) table (fun t =>
      FlagsAre z n h c t ∧
      KeepsRegs [] s t ∧ t.cpu.sp = s.cpu.sp ∧ KeepsControl s t ∧ NoStore s t) := by
  refine completesIn_of_complete he (by simp) (by simp) fun pc k m => ?_
  have hflags := (flagsAre_setAluFlags s r).2 hr
  have hregs := (keepsRegs_refl [] s).setAluFlags r
  exact ⟨hflags.retire pc k m, hregs.retire pc k m, by simp, by simp, by simp⟩

/-- The result goes back to the operand, and the flags. -/
theorem completesIn_of_resultInOperand {i : Instr} {s : State} {o : Operand8} {r : AluOut}
    {length table : Nat} {z n h c : Prop} (hr : r.FlagsMean z n h c)
    (he : exec i s =
      complete length (s.cyclesOf i table) ((s.setOperand o r.val).setAluFlags r)) :
    CompletesIn i s (s.cpu.pc + BitVec.ofNat 16 length) table (fun t =>
      OperandBecomes o r.val s t ∧ FlagsAre z n h c t ∧ t.cpu.sp = s.cpu.sp ∧ KeepsControl s t) := by
  refine completesIn_of_complete he (by simp) (by simp) fun pc k m => ?_
  have hflags := (flagsAre_setAluFlags (s.setOperand o r.val) r).2 hr
  have hoperand := (operandBecomes_setOperand o r.val s).setAluFlags r
  have hcontrol := (keepsControl_setOperand s s o r.val).2 (keepsControl_refl s)
  exact ⟨hoperand.retire pc k m, hflags.retire pc k m, by simp, hcontrol⟩

/-! ## The accumulator operations -/

theorem encode_aluOn (op : AluOp) (src : AluSource) :
    encode (.aluOn op src) = aluEncoding op src := by
  cases src with
  | imm n8 => cases op <;> rfl
  | operand o =>
    cases o with
    | mhl => cases op <;> rfl
    | reg r => cases op <;> cases r <;> rfl

theorem exec_aluOn (op : AluOp) (src : AluSource) (s : State) :
    exec (.aluOn op src) s = aluOnA op (s.aluSource src) src.length.toNat
      (s.cyclesOf (.aluOn op src) src.cycles) s := by
  cases src with
  | imm n8 => cases op <;> rfl
  | operand o =>
    cases o with
    | mhl => cases op <;> rfl
    | reg r => cases op <;> cases r <;> rfl

/-- Every operation but `CP` writes its result to `A` (R117 to R137). -/
theorem completesIn_aluOn {op : AluOp} (hop : op ≠ .cp) (src : AluSource) {s : State} {r : AluOut}
    (hres : aluResult op s.cpu.a (s.aluSource src) s.cpu.flagC = r) {n h c : Prop}
    (hr : r.FlagsMean (r.val = 0#8) n h c) :
    CompletesIn (.aluOn op src) s (s.cpu.pc + src.length) src.cycles (fun t =>
      t.cpu.a = r.val ∧ FlagsAre (t.cpu.a = 0#8) n h c t ∧
      KeepsRegs [.a] s t ∧ t.cpu.sp = s.cpu.sp ∧ KeepsControl s t ∧ NoStore s t) := by
  subst hres
  have he := exec_aluOn op src s
  rw [aluOnA, if_neg hop] at he
  have h := completesIn_of_resultInA_zero hr he
  rwa [BitVec.ofNat_toNat, BitVec.setWidth_eq] at h

/-- `CP` writes the flags of the subtraction (R138 to R140). -/
theorem completesIn_aluOn_cp (src : AluSource) {s : State} {z n h c : Prop}
    (hr : (sub8 s.cpu.a (s.aluSource src) false).FlagsMean z n h c) :
    CompletesIn (.aluOn .cp src) s (s.cpu.pc + src.length) src.cycles (fun t =>
      FlagsAre z n h c t ∧
      KeepsRegs [] s t ∧ t.cpu.sp = s.cpu.sp ∧ KeepsControl s t ∧ NoStore s t) := by
  have h := completesIn_of_flagsOnly hr (exec_aluOn .cp src s)
  rwa [BitVec.ofNat_toNat, BitVec.setWidth_eq] at h

/-- The carry-in of an operation of a family in which `withCarry` alone takes the old `C`. -/
def carryIn (op withCarry : AluOp) (carry : Bool) : Bool := decide (op = withCarry ∧ carry = true)

theorem carryIn_toNat (op withCarry : AluOp) (carry : Bool) :
    (carryIn op withCarry carry).toNat = if op = withCarry ∧ carry = true then 1 else 0 := by
  unfold carryIn
  split <;> simp_all

/-! ## Addition (R115) -/

/-- The mask of a nibble is a remainder. -/
theorem and_fifteen_eq_mod (n : Nat) : n &&& 15 = n % 16 := Nat.and_two_pow_sub_one_eq_mod n 4

theorem add8_val_toNat (a b : Byte) (ci : Bool) :
    (add8 a b ci).val.toNat = (a.toNat + b.toNat + ci.toNat) % 256 := BitVec.toNat_ofNat ..

theorem add8_flags (a b : Byte) (ci : Bool) :
    (add8 a b ci).FlagsMean ((add8 a b ci).val = 0#8) False
      (a.toNat % 16 + b.toNat % 16 + ci.toNat > 15) (a.toNat + b.toNat + ci.toNat > 255) := by
  simp [AluOut.FlagsMean, add8, and_fifteen_eq_mod]

theorem aluResult_eq_add8 {op : AluOp} (hop : op ∈ [AluOp.add, AluOp.adc]) (a b : Byte)
    (carry : Bool) :
    op ≠ .cp ∧ aluResult op a b carry = add8 a b (carryIn op .adc carry) := by
  obtain rfl | rfl : op = .add ∨ op = .adc := by simpa using hop
  · exact ⟨by decide, rfl⟩
  · exact ⟨by decide, by cases carry <;> rfl⟩

/-- Settles O16: both are `add8`, with the carry-in that the operation takes. -/
theorem addToAccumulator : Obligations.AddToAccumulator := by
  intro op hop src
  refine ⟨encode_aluOn op src, fun s => ?_⟩
  obtain ⟨hcp, hres⟩ := aluResult_eq_add8 hop s.cpu.a (s.aluSource src) s.cpu.flagC
  intro a b ci
  have hci : (carryIn op .adc s.cpu.flagC).toNat = ci := carryIn_toNat ..
  have hflags := add8_flags s.cpu.a (s.aluSource src) (carryIn op .adc s.cpu.flagC)
  have hval := add8_val_toNat s.cpu.a (s.aluSource src) (carryIn op .adc s.cpu.flagC)
  rw [hci] at hflags hval
  exact (completesIn_aluOn hcp src hres hflags).imp fun _ ⟨ha, hrest⟩ => ⟨ha ▸ hval, hrest⟩

/-! ## Subtraction (R116) -/

theorem sub8_val_toNat (a b : Byte) (ci : Bool) :
    ((sub8 a b ci).val.toNat : Int) = ((a.toNat : Int) - b.toNat - ci.toNat) % 256 := by
  refine (congrArg Nat.cast (BitVec.toNat_ofInt ..)).trans (Int.toNat_of_nonneg ?_)
  exact Int.emod_nonneg _ (by decide)

theorem sub8_flags (a b : Byte) (ci : Bool) :
    (sub8 a b ci).FlagsMean ((sub8 a b ci).val = 0#8) True
      ((a.toNat : Int) % 16 - (b.toNat : Int) % 16 - ci.toNat < 0)
      ((a.toNat : Int) - b.toNat - ci.toNat < 0) := by
  simp [AluOut.FlagsMean, sub8, and_fifteen_eq_mod]

/-- Without a carry-in the result is 0 exactly for equal operands. -/
theorem sub8_val_eq_zero_iff (a b : Byte) : (sub8 a b false).val = 0#8 ↔ a.toNat = b.toNat := by
  have hval := sub8_val_toNat a b false
  have ha := a.isLt
  have hb := b.isLt
  rw [← BitVec.toNat_inj]
  simp only [Bool.toNat_false, BitVec.toNat_ofNat] at hval ⊢
  omega

/-- The flags of `CP` compare the operands (R138). -/
theorem sub8_flags_compare (a b : Byte) :
    (sub8 a b false).FlagsMean (a.toNat = b.toNat) True (a.toNat % 16 < b.toNat % 16)
      (a.toNat < b.toNat) := by
  obtain ⟨hz, hn, hh, hc⟩ := sub8_flags a b false
  simp only [Bool.toNat_false] at hh hc
  exact ⟨hz.trans (sub8_val_eq_zero_iff a b), hn, hh.trans (by omega), hc.trans (by omega)⟩

theorem aluResult_eq_sub8 {op : AluOp} (hop : op ∈ [AluOp.sub, AluOp.sbc]) (a b : Byte)
    (carry : Bool) :
    op ≠ .cp ∧ aluResult op a b carry = sub8 a b (carryIn op .sbc carry) := by
  obtain rfl | rfl : op = .sub ∨ op = .sbc := by simpa using hop
  · exact ⟨by decide, rfl⟩
  · exact ⟨by decide, by cases carry <;> rfl⟩

/-- Settles O17: `SUB` and `SBC` are `sub8` into `A`; `CP` is its flags. -/
theorem subtractAndCompare : Obligations.SubtractAndCompare := by
  refine ⟨fun op hop src => ⟨encode_aluOn op src, fun s => ?_⟩, fun src =>
    ⟨encode_aluOn .cp src, fun s => completesIn_aluOn_cp src (sub8_flags_compare ..)⟩⟩
  obtain ⟨hcp, hres⟩ := aluResult_eq_sub8 hop s.cpu.a (s.aluSource src) s.cpu.flagC
  intro a b ci
  have hci : ((carryIn op .sbc s.cpu.flagC).toNat : Int) = ci := by simp [ci, carryIn_toNat]
  have hflags := sub8_flags s.cpu.a (s.aluSource src) (carryIn op .sbc s.cpu.flagC)
  have hval := sub8_val_toNat s.cpu.a (s.aluSource src) (carryIn op .sbc s.cpu.flagC)
  rw [hci] at hflags hval
  exact (completesIn_aluOn hcp src hres hflags).imp fun _ ⟨ha, hrest⟩ => ⟨ha ▸ hval, hrest⟩

/-! ## Logic (R129 to R137) -/

theorem logic8_flags (r : Byte) (h : Bool) :
    (logic8 r h).FlagsMean ((logic8 r h).val = 0#8) False (h = true) False := by
  simp [AluOut.FlagsMean, logic8]

/-- An operation that is `logic8` of a function of its operands, with `H` set by `AND` alone. -/
theorem completesIn_aluOn_logic {op : AluOp} {f : Byte → Byte → Byte} (hcp : op ≠ .cp)
    (hres : ∀ a b carry, aluResult op a b carry = logic8 (f a b) (decide (op = .and)))
    (src : AluSource) (s : State) :
    CompletesIn (.aluOn op src) s (s.cpu.pc + src.length) src.cycles (fun t =>
      t.cpu.a = f s.cpu.a (s.aluSource src) ∧ FlagsAre (t.cpu.a = 0#8) False (op = .and) False t ∧
      KeepsRegs [.a] s t ∧ t.cpu.sp = s.cpu.sp ∧ KeepsControl s t ∧ NoStore s t) := by
  have hflags := logic8_flags (f s.cpu.a (s.aluSource src)) (decide (op = .and))
  rw [decide_eq_true_iff] at hflags
  exact completesIn_aluOn hcp src (hres ..) hflags

/-- Settles O18: the three operations are `logic8` of the bitwise functions. -/
theorem logicOnAccumulator : Obligations.LogicOnAccumulator := by
  intro of hof src
  refine ⟨encode_aluOn of.1 src, ?_⟩
  simp only [List.mem_cons, List.not_mem_nil, or_false] at hof
  obtain rfl | rfl | rfl := hof
  all_goals exact completesIn_aluOn_logic (by decide) (fun _ _ _ => rfl) src

/-! ## Increment and decrement (R141 to R144) -/

/-- A low nibble is a given value as a byte if it is that value as a remainder. -/
theorem and_lowNibble_eq_iff (b v : Byte) : b &&& 0x0F#8 = v ↔ b.toNat % 16 = v.toNat := by
  rw [← BitVec.toNat_inj, BitVec.toNat_and]
  exact (and_fifteen_eq_mod b.toNat).symm ▸ Iff.rfl

theorem inc8_flags (v : Byte) (carry : Bool) :
    (inc8 v carry).FlagsMean (v = 0xFF#8) False (v.toNat % 16 = 15) (carry = true) := by
  simp [AluOut.FlagsMean, inc8, and_lowNibble_eq_iff]

theorem dec8_flags (v : Byte) (carry : Bool) :
    (dec8 v carry).FlagsMean (v = 0x01#8) True (v.toNat % 16 = 0) (carry = true) := by
  simp [AluOut.FlagsMean, dec8, and_lowNibble_eq_iff]

theorem encode_incOn (o : Operand8) : encode (.incOn o) = [byteOf (0x04 + 8 * o.code)] := by
  cases o with
  | mhl => rfl
  | reg r => cases r <;> rfl

theorem encode_decOn (o : Operand8) : encode (.decOn o) = [byteOf (0x05 + 8 * o.code)] := by
  cases o with
  | mhl => rfl
  | reg r => cases r <;> rfl

theorem exec_incOn (o : Operand8) (s : State) :
    exec (.incOn o) s = incOperand o (s.cyclesOf (.incOn o) (o.pick 1 3)) s := by
  cases o with
  | mhl => rfl
  | reg r => cases r <;> rfl

theorem exec_decOn (o : Operand8) (s : State) :
    exec (.decOn o) s = decOperand o (s.cyclesOf (.decOn o) (o.pick 1 3)) s := by
  cases o with
  | mhl => rfl
  | reg r => cases r <;> rfl

/-- Settles O19: `INC` and `DEC` write `inc8` and `dec8` of the operand back to it. -/
theorem incrementAndDecrement : Obligations.IncrementAndDecrement := fun o =>
  ⟨encode_incOn o, encode_decOn o, fun s =>
    ⟨completesIn_of_resultInOperand (inc8_flags (s.operand o) s.cpu.flagC) (exec_incOn o s),
      completesIn_of_resultInOperand (dec8_flags (s.operand o) s.cpu.flagC) (exec_decOn o s)⟩⟩

/-! ## Decimal adjustment (R145) -/

/-- The two corrections have no bit in common, so their bitwise or is their sum. -/
theorem toNat_corrections (low high : Bool) :
    ((if low then 0x06#8 else 0#8) ||| (if high then 0x60#8 else 0#8) : Byte).toNat =
      (if low then 0x06 else 0) + (if high then 0x60 else 0) := by
  cases low <;> cases high <;> rfl

/-- After an addition the corrections are added, both tested on the original `A` (D27). -/
theorem daa8_val_after_add (a : Byte) (h c : Bool) :
    (daa8 a false h c).val.toNat =
      (a.toNat + (if h = true ∨ a.toNat % 16 > 9 then 0x06 else 0) +
        (if c = true ∨ a.toNat > 0x99 then 0x60 else 0)) % 256 := by
  simp only [daa8, Bool.false_eq_true, if_false, BitVec.toNat_add, toNat_corrections]
  simp [and_fifteen_eq_mod, Nat.add_assoc]

theorem daa8_flags_after_add (a : Byte) (h c : Bool) :
    (daa8 a false h c).FlagsMean ((daa8 a false h c).val = 0#8) False False
      (c = true ∨ a.toNat > 0x99) := by
  simp [AluOut.FlagsMean, daa8]

/-- After a subtraction the corrections that the old flags ask for are subtracted. -/
theorem daa8_val_after_sub (a : Byte) (h c : Bool) :
    ((daa8 a true h c).val.toNat : Int) =
      ((a.toNat : Int) - (if h = true then 0x06 else 0) - (if c = true then 0x60 else 0)) % 256 := by
  have hval : (daa8 a true h c).val.toNat =
      (256 - ((if h then 0x06 else 0) + (if c then 0x60 else 0)) + a.toNat) % 256 := by
    simp only [daa8, if_true, BitVec.toNat_sub, toNat_corrections]
  rw [hval]
  split <;> split <;> omega

theorem daa8_flags_after_sub (a : Byte) (h c : Bool) :
    (daa8 a true h c).FlagsMean ((daa8 a true h c).val = 0#8) True False (c = true) := by
  simp [AluOut.FlagsMean, daa8]

theorem completesIn_daa {s : State} {r : AluOut} {n h c : Prop}
    (hres : daa8 s.cpu.a s.cpu.flagN s.cpu.flagH s.cpu.flagC = r)
    (hr : r.FlagsMean (r.val = 0#8) n h c) :
    CompletesIn .daa s (s.cpu.pc + 1#16) 1 (fun t =>
      t.cpu.a = r.val ∧ FlagsAre (t.cpu.a = 0#8) n h c t ∧
      KeepsRegs [.a] s t ∧ t.cpu.sp = s.cpu.sp ∧ KeepsControl s t ∧ NoStore s t) := by
  subst hres
  exact completesIn_of_resultInA_zero (i := .daa) (length := 1) hr rfl

/-- Settles O20: `DAA` is `daa8`, by the two values of `N`. -/
theorem decimalAdjust : Obligations.DecimalAdjust := by
  refine ⟨rfl, fun s => ?_⟩
  cases hn : s.cpu.flagN with
  | false =>
    refine (completesIn_daa (by rw [hn]) (daa8_flags_after_add s.cpu.a s.cpu.flagH s.cpu.flagC)).imp
      fun t ⟨ha, hflags, hrest⟩ => ⟨fun _ => ?_, nofun, hrest⟩
    exact ⟨_, _, fun hl => if_pos hl, fun hl => if_neg hl, fun hh => if_pos hh, fun hh => if_neg hh,
      ha ▸ daa8_val_after_add .., hflags⟩
  | true =>
    refine (completesIn_daa (by rw [hn]) (daa8_flags_after_sub s.cpu.a s.cpu.flagH s.cpu.flagC)).imp
      fun t ⟨ha, hflags, hrest⟩ => ⟨nofun, fun _ => ?_, hrest⟩
    exact ⟨ha ▸ daa8_val_after_sub .., hflags⟩

/-! ## Complement and carry flag (R146 to R148) -/

/-- Settles O21: `CPL` writes `A` and two flags, `SCF` and `CCF` write flags only. -/
theorem complementAndCarryFlag : Obligations.ComplementAndCarryFlag := by
  refine ⟨rfl, rfl, rfl, fun s => ?_⟩
  intro z c
  have hcpl : AluOut.FlagsMean ⟨~~~s.cpu.a, s.cpu.flagZ, true, true, s.cpu.flagC⟩
      z True True c := by simp [AluOut.FlagsMean, z, c]
  have hscf : AluOut.FlagsMean ⟨s.cpu.a, s.cpu.flagZ, false, false, true⟩
      z False False True := by simp [AluOut.FlagsMean, z]
  have hccf : AluOut.FlagsMean ⟨s.cpu.a, s.cpu.flagZ, false, false, !s.cpu.flagC⟩
      z False False (¬ c) := by simp [AluOut.FlagsMean, z, c]
  refine ⟨?_, completesIn_of_flagsOnly (i := .scf) (length := 1) hscf rfl,
    completesIn_of_flagsOnly (i := .ccf) (length := 1) hccf rfl⟩
  have hnot : ~~~s.cpu.a = s.cpu.a ^^^ 0xFF#8 := (BitVec.xor_allOnes (x := s.cpu.a)).symm
  exact hnot ▸ completesIn_of_resultInA (i := .cpl) (length := 1) hcpl rfl

end Sys2Proof.Machine
end

section
/-! PROOFS. 16-bit arithmetic (R149 to R151). The flags of `ADD HL,rr` on numbers and the
frame of its meaning (`addHlPair`); `INC rr` and `DEC rr` (`stepPair`) load the pair with its value
moved by one. -/

namespace Sys2Proof.Machine

/-! ## Adding to `HL` (R149) -/

/-- The masks of `halfCarry16` are remainders. -/
theorem halfCarry16_iff (a b : Word) :
    halfCarry16 a b = true ↔ a.toNat % 4096 + b.toNat % 4096 > 4095 := by
  have hmask (n : Nat) : n &&& 4095 = n % 4096 := Nat.and_two_pow_sub_one_eq_mod n 12
  simp [halfCarry16, hmask]

theorem carry16_iff (a b : Word) : carry16 a b = true ↔ a.toNat + b.toNat > 65535 :=
  decide_eq_true_iff

/-- `Z` is the one passed through, `N` is clear, `H` and `C` are those of the sum. -/
theorem flagsAre_addHl (a b : Word) (z : Bool) (u : State) :
    FlagsAre (z = true) False (a.toNat % 4096 + b.toNat % 4096 > 4095) (a.toNat + b.toNat > 65535)
      (u.setFlags z false (halfCarry16 a b) (carry16 a b)) :=
  (flagsAre_setFlags ..).2
    ⟨Iff.rfl, Bool.false_eq_true.to_iff, halfCarry16_iff a b, carry16_iff a b⟩

theorem completesIn_of_addHlPair {i : Instr} {s : State} {p : Pair} {table : Nat}
    (he : exec i s = addHlPair p (s.cyclesOf i table) s) :
    CompletesIn i s (s.cpu.pc + 1#16) table (fun t =>
      PairBecomes .hl (s.cpu.pair .hl + s.cpu.pair p) s t ∧
      FlagsAre (s.cpu.flagZ = true) False
        ((s.cpu.pair .hl).toNat % 4096 + (s.cpu.pair p).toNat % 4096 > 4095)
        ((s.cpu.pair .hl).toNat + (s.cpu.pair p).toNat > 65535) t ∧
      KeepsControl s t ∧ NoStore s t) := by
  refine completesIn_of_complete he (by simp) (by simp) fun pc k n => ?_
  exact ⟨((pairBecomes_setPair ..).setFlags ..).retire pc k n, (flagsAre_addHl ..).retire pc k n,
    by simp, by simp⟩

theorem encode_addHl (p : Pair) : encode (.addHl p) = [byteOf (0x09 + 16 * p.code)] := by
  cases p <;> rfl

theorem exec_addHl (p : Pair) (s : State) :
    exec (.addHl p) s = addHlPair p (s.cyclesOf (.addHl p) 2) s := by cases p <;> rfl

/-- Settles O22: each form is `addHlPair`, whose word sum is the sum modulo 65536. -/
theorem addToHl : Obligations.AddToHl := fun p =>
  ⟨encode_addHl p, fun s => (completesIn_of_addHlPair (exec_addHl p s)).imp
    fun _ ⟨⟨hsum, hregs, hsp⟩, hflags, hrest⟩ =>
      ⟨hsum ▸ BitVec.toNat_add .., hflags, hregs, hsp (by decide), hrest⟩⟩

/-! ## Increment and decrement of a pair (R150, R151) -/

/-- A step of a pair is a load of the pair. -/
theorem completesIn_of_stepPair {i : Instr} {s : State} {p : Pair} {d : Word} {table : Nat}
    (he : exec i s = stepPair p d (s.cyclesOf i table) s) :
    CompletesIn i s (s.cpu.pc + 1#16) table (fun t =>
      PairBecomes p (s.cpu.pair p + d) s t ∧ t.cpu.f = s.cpu.f ∧ KeepsControl s t ∧ NoStore s t) :=
  completesIn_of_loadPair (length := 1) he

theorem encode_incPair (p : Pair) : encode (.incPair p) = [byteOf (0x03 + 16 * p.code)] := by
  cases p <;> rfl

theorem encode_decPair (p : Pair) : encode (.decPair p) = [byteOf (0x0B + 16 * p.code)] := by
  cases p <;> rfl

theorem exec_incPair (p : Pair) (s : State) :
    exec (.incPair p) s = stepPair p 1#16 (s.cyclesOf (.incPair p) 2) s := by cases p <;> rfl

theorem exec_decPair (p : Pair) (s : State) :
    exec (.decPair p) s = stepPair p (-1#16) (s.cyclesOf (.decPair p) 2) s := by cases p <;> rfl

/-- Settles O23: both are `stepPair`, by 1 and by -1. -/
theorem incrementAndDecrementPair : Obligations.IncrementAndDecrementPair := fun p =>
  ⟨encode_incPair p, encode_decPair p, fun s =>
    ⟨completesIn_of_stepPair (exec_incPair p s), by
      rw [BitVec.sub_eq_add_neg]
      exact completesIn_of_stepPair (exec_decPair p s)⟩⟩

end Sys2Proof.Machine
end

section
/-! PROOFS. Rotates, shifts and bits (R153 to R178). A rotate or shift moves every bit one place
left or right, or exchanges the nibbles, which gives its result bit by bit; its instructions then end
as an operation with a result does (the result in `A`, or in the operand it came from). `BIT` writes
flags alone, `RES` and `SET` the operand alone. -/

namespace Sys2Proof.Machine

/-! ## Rotates and shifts, bit by bit -/

/-- One place left: `b` enters bit 0. -/
theorem bitOf_shiftLeft (v : Byte) (b : Bool) {j : Nat} (hj : j < 8) :
    bitOf (v.extractLsb' 0 7 ++ BitVec.ofBool b) j = if j = 0 then b else bitOf v (j - 1) := by
  rw [bitOf, BitVec.getLsbD_append]
  by_cases h0 : j = 0
  · simp [h0]
  · have hlow : ¬ j < 1 := by omega
    have hhigh : j - 1 < 7 := by omega
    simp [h0, hlow, hhigh, bitOf]

/-- One place right: `b` enters bit 7. -/
theorem bitOf_shiftRight (v : Byte) (b : Bool) {j : Nat} (hj : j < 8) :
    bitOf (BitVec.ofBool b ++ v.extractLsb' 1 7) j = if j = 7 then b else bitOf v (j + 1) := by
  rw [bitOf, BitVec.getLsbD_append]
  by_cases h7 : j = 7
  · simp [h7]
  · have hlow : j < 7 := by omega
    simp [h7, hlow, bitOf, Nat.add_comm]

theorem bitOf_swapNibbles (v : Byte) {j : Nat} (hj : j < 8) :
    bitOf (v.extractLsb' 0 4 ++ v.extractLsb' 4 4) j = bitOf v ((j + 4) % 8) := by
  rw [bitOf, BitVec.getLsbD_append]
  by_cases hlow : j < 4
  · have hmod : (j + 4) % 8 = 4 + j := by omega
    simp [hlow, hmod, bitOf]
  · have hmod : (j + 4) % 8 = j - 4 := by omega
    have hhigh : j - 4 < 4 := by omega
    simp [hlow, hmod, hhigh, bitOf]

/-- Where bit 7 itself enters bit 0, the place to the left is counted modulo 8. -/
theorem bitOf_rotateLeft (v : Byte) {j : Nat} (hj : j < 8) :
    bitOf (v.extractLsb' 0 7 ++ BitVec.ofBool (bitOf v 7)) j = bitOf v ((j + 7) % 8) := by
  rw [bitOf_shiftLeft v _ hj]
  split <;> congr 1 <;> omega

theorem bitOf_rotateRight (v : Byte) {j : Nat} (hj : j < 8) :
    bitOf (BitVec.ofBool (bitOf v 0) ++ v.extractLsb' 1 7) j = bitOf v ((j + 1) % 8) := by
  rw [bitOf_shiftRight v _ hj]
  split <;> congr 1 <;> omega

/-- The case split is that of `rotate8`; each result is one of the shapes above. -/
theorem bitOf_rotResult (op : RotOp) (v : Byte) (carry : Bool) {j : Nat} (hj : j < 8) :
    bitOf (rotResult op v carry).val j = rotatedBit op v carry j := by
  cases op with
  | rlc => exact bitOf_rotateLeft v hj
  | rrc => exact bitOf_rotateRight v hj
  | rl => exact bitOf_shiftLeft v carry hj
  | rr => exact bitOf_shiftRight v carry hj
  | sla => exact bitOf_shiftLeft v false hj
  | sra => exact bitOf_shiftRight v (bitOf v 7) hj
  | swap => exact bitOf_swapNibbles v hj
  | srl => exact bitOf_shiftRight v false hj

theorem rotResult_c (op : RotOp) (v : Byte) (carry : Bool) :
    (rotResult op v carry).c = shiftedOut op v := by cases op <;> rfl

theorem rotResult_flags (op : RotOp) (v : Byte) (carry : Bool) :
    (rotResult op v carry).FlagsMean ((rotResult op v carry).val = 0#8) False False
      (shiftedOut op v = true) :=
  ⟨beq_iff_eq, Bool.false_eq_true.to_iff, Bool.false_eq_true.to_iff, by rw [rotResult_c]⟩

/-! ## The rotates of `A` (R153 to R156) -/

/-- The result of a rotate of `A`: the extended rotate's, with `Z` cleared. -/
def rotAResult (op : RotOp) (a : Byte) (carry : Bool) : AluOut :=
  { rotResult op a carry with z := false }

theorem rotAResult_flags (op : RotOp) (a : Byte) (carry : Bool) :
    (rotAResult op a carry).FlagsMean False False False (shiftedOut op a = true) :=
  ⟨Bool.false_eq_true.to_iff, (rotResult_flags op a carry).2⟩

theorem rotateA_eq (op : RotOp) (cycles : Nat) (s : State) :
    rotateA op cycles s = complete 1 cycles
      ((s.setReg .a (rotAResult op s.cpu.a s.cpu.flagC).val).setAluFlags
        (rotAResult op s.cpu.a s.cpu.flagC)) := rfl

theorem completesIn_of_rotateA {i : Instr} {op : RotOp} {s : State} {table : Nat}
    (he : exec i s = rotateA op (s.cyclesOf i table) s) :
    CompletesIn i s (s.cpu.pc + 1#16) table (fun t =>
      (∀ j, j < 8 → bitOf t.cpu.a j = rotatedBit op s.cpu.a s.cpu.flagC j) ∧
      FlagsAre False False False (shiftedOut op s.cpu.a = true) t ∧
      KeepsRegs [.a] s t ∧ t.cpu.sp = s.cpu.sp ∧ KeepsControl s t ∧ NoStore s t) :=
  (completesIn_of_resultInA (rotAResult_flags ..) (he.trans (rotateA_eq ..))).imp
    fun _ ⟨ha, hrest⟩ => ⟨fun _ hj => ha ▸ bitOf_rotResult _ _ _ hj, hrest⟩

/-- Settles O24: each of the four is `rotateA` of its operation. -/
theorem rotateAccumulator : Obligations.RotateAccumulator := by
  intro io hio
  simp only [List.mem_cons, List.not_mem_nil, or_false] at hio
  obtain rfl | rfl | rfl | rfl := hio
  all_goals exact ⟨rfl, fun _ => completesIn_of_rotateA rfl⟩

/-! ## The extended rotates and shifts (R157 to R172) -/

theorem exec_rotOn (op : RotOp) (o : Operand8) (s : State) :
    exec (.rotOn op o) s = rotateOperand op o (s.cyclesOf (.rotOn op o) (o.pick 2 4)) s := by
  cases o with
  | mhl => cases op <;> rfl
  | reg r => cases op <;> cases r <;> rfl

/-- All eight operations write `rotResult` of the operand back to it. -/
theorem rotatesOperand (op : RotOp) (o : Operand8) : RotatesOperand op o :=
  ⟨encode_rotOn op o, fun s =>
    (completesIn_of_resultInOperand (rotResult_flags op (s.operand o) s.cpu.flagC)
      (exec_rotOn op o s)).imp fun _ ⟨hoperand, hflags, hrest⟩ =>
        ⟨⟨_, hoperand, fun _ hj => bitOf_rotResult _ _ _ hj, hflags⟩, hrest⟩⟩

/-- Settles O25: the four rotates are among the eight operations. -/
theorem rotateOperandForms : Obligations.RotateOperand := fun op _ o => rotatesOperand op o

/-- Settles O26: the three shifts and `SWAP` are among the eight operations. -/
theorem shiftOperand : Obligations.ShiftOperand := fun op _ o => rotatesOperand op o

/-! ## Bit test (R173, R174) -/

/-- The operand and the flags that `BIT` writes. -/
def bitTestResult (v : Byte) (b : Nat) (carry : Bool) : AluOut :=
  { val := v, z := !bitOf v b, n := false, h := true, c := carry }

theorem bitTestResult_flags (v : Byte) (b : Nat) (carry : Bool) :
    (bitTestResult v b carry).FlagsMean (bitOf v b = false) False True (carry = true) := by
  simp [AluOut.FlagsMean, bitTestResult]

theorem exec_bitOn (b : Num8) (o : Operand8) (s : State) :
    exec (.bitOn b o) s = testBit b.val o (s.cyclesOf (.bitOn b o) (o.pick 2 3)) s := by
  cases o with
  | mhl => cases b <;> rfl
  | reg r => cases b <;> cases r <;> rfl

/-- Settles O27: `BIT` writes the flags of `bitTestResult` alone. -/
theorem testBitForms : Obligations.TestBit := fun b o =>
  ⟨encode_bitOn b o, fun s =>
    completesIn_of_flagsOnly (bitTestResult_flags (s.operand o) b.val s.cpu.flagC)
      (exec_bitOn b o s)⟩

/-! ## Bit reset and set (R175 to R178) -/

theorem bitOf_not (v : Byte) {j : Nat} (hj : j < 8) : bitOf (~~~v) j = !bitOf v j := by
  simp [bitOf, hj]

theorem bitOf_clearBit (v : Byte) (b : Nat) {j : Nat} (hj : j < 8) :
    bitOf (clearBit v b) j = if j = b then false else bitOf v j := by
  rw [clearBit, bitOf_and, bitOf_not _ hj, bitOf_bitMask hj]
  by_cases h : j = b <;> simp [h]

theorem bitOf_setBit (v : Byte) (b : Nat) {j : Nat} (hj : j < 8) :
    bitOf (setBit v b) j = if j = b then true else bitOf v j := by
  rw [setBit, bitOf_or, bitOf_bitMask hj]
  by_cases h : j = b <;> simp [h]

@[simp] theorem State.setOperand_f (s : State) (o : Operand8) (v : Byte) :
    (s.setOperand o v).cpu.f = s.cpu.f := by
  cases o <;> simp [State.setOperand]

theorem exec_resOn (b : Num8) (o : Operand8) (s : State) :
    exec (.resOn b o) s = resetBitOf b.val o (s.cyclesOf (.resOn b o) (o.pick 2 4)) s := by
  cases o with
  | mhl => cases b <;> rfl
  | reg r => cases b <;> cases r <;> rfl

theorem exec_setOn (b : Num8) (o : Operand8) (s : State) :
    exec (.setOn b o) s = setBitOf b.val o (s.cyclesOf (.setOn b o) (o.pick 2 4)) s := by
  cases o with
  | mhl => cases b <;> rfl
  | reg r => cases b <;> cases r <;> rfl

/-- The operand alone is written, with one bit changed. -/
theorem completesIn_of_bitChanged {i : Instr} {s : State} {o : Operand8} {w : Byte} {table b : Nat}
    {value : Bool} (he : exec i s = complete 2 (s.cyclesOf i table) (s.setOperand o w))
    (hw : ∀ j, j < 8 → bitOf w j = if j = b then value else bitOf (s.operand o) j) :
    CompletesIn i s (s.cpu.pc + 2#16) table (fun t =>
      (∃ w, OperandBecomes o w s t ∧
        ∀ j, j < 8 → bitOf w j = if j = b then value else bitOf (s.operand o) j) ∧
      KeepsFlagsSp s t ∧ KeepsControl s t) := by
  refine completesIn_of_complete he (by simp) (by simp) fun pc k n => ?_
  have hoperand := (operandBecomes_setOperand o w s).retire pc k n
  have hcontrol := (keepsControl_setOperand s s o w).2 (keepsControl_refl s)
  exact ⟨⟨w, hoperand, hw⟩, by simp, hcontrol⟩

/-- Settles O28: `RES` writes `clearBit` of the operand back to it, `SET` writes `setBit`. -/
theorem resetAndSetBit : Obligations.ResetAndSetBit := by
  intro iv hiv b o
  simp only [List.mem_cons, List.not_mem_nil, or_false] at hiv
  obtain rfl | rfl := hiv
  · exact ⟨encode_resOn b o, fun s =>
      completesIn_of_bitChanged (exec_resOn b o s) fun _ hj => bitOf_clearBit _ _ hj⟩
  · exact ⟨encode_setOn b o, fun s =>
      completesIn_of_bitChanged (exec_setOn b o s) fun _ hj => bitOf_setBit _ _ hj⟩

end Sys2Proof.Machine
end

section
/-! PROOFS. Jumps, calls and returns (R179 to R189). A conditional form is its unconditional form
where the condition holds, and goes on to the next instruction where it does not; then one lemma for
each shared meaning (a jump, `callTo`, a return with a given `IME`). -/

namespace Sys2Proof.Machine

/-! ## Conditions -/

theorem Cpu.cond_eq_true_iff (cc : Cond) (s : State) : s.cpu.cond cc = true ↔ CondHolds cc s := by
  cases cc <;> simp [Cpu.cond, CondHolds]

theorem ite_cond_of_condHolds {cc : Cond} {s : State} (h : CondHolds cc s)
    (taken notTaken : Result) : (if s.cpu.cond cc then taken else notTaken) = taken :=
  if_pos ((Cpu.cond_eq_true_iff cc s).2 h)

theorem ite_cond_of_not_condHolds {cc : Cond} {s : State} (h : ¬ CondHolds cc s)
    (taken notTaken : Result) : (if s.cpu.cond cc then taken else notTaken) = notTaken :=
  if_neg (mt (Cpu.cond_eq_true_iff cc s).1 h)

/-! ## Jumping -/

/-- Nothing but `pc` and the cycle counter has changed. -/
def KeepsAllButPc (s t : State) : Prop :=
  KeepsRegs [] s t ∧ KeepsFlagsSp s t ∧ KeepsControl s t ∧ NoStore s t

theorem keepsAllButPc_retire (s : State) (pc : Word) (k n : Nat) :
    KeepsAllButPc s (s.withCpu ((s.cpu.withPc pc).retire k n)) :=
  ⟨(keepsRegs_refl [] s).retire pc k n, by simp, by simp, by simp⟩

theorem completes_of_completeAt {i : Instr} {s : State} {target : Word} {n : Nat}
    (he : exec i s = completeAt target n s) : Completes i s target n (KeepsAllButPc s) :=
  completes_of_retire he (by simp) (keepsAllButPc_retire s)

theorem completes_of_complete {i : Instr} {s : State} {length n : Nat}
    (he : exec i s = complete length n s) :
    Completes i s (s.cpu.pc + BitVec.ofNat 16 length) n (KeepsAllButPc s) :=
  completes_of_completeAt he

theorem jumpsTo_of_completeAt {i : Instr} {bytes : List Byte} {target : State → Word}
    {cycles : State → Nat} (henc : encode i = bytes)
    (he : ∀ s, exec i s = completeAt (target s) (cycles s) s) : JumpsTo i bytes target cycles :=
  ⟨henc, fun s => completes_of_completeAt (he s)⟩

/-- A conditional jump goes to its target where the condition holds and on where it does not. -/
theorem completes_of_jumpIf {i : Instr} {cc : Cond} {s : State} {target : Word}
    {length taken notTaken : Nat} (he : exec i s = jumpIf cc target length taken notTaken s) :
    ∃ pc cycles,
      (CondHolds cc s → pc = target ∧ cycles = taken) ∧
      (¬ CondHolds cc s → pc = s.cpu.pc + BitVec.ofNat 16 length ∧ cycles = notTaken) ∧
      Completes i s pc cycles (KeepsAllButPc s) := by
  by_cases hcc : CondHolds cc s
  · exact ⟨target, taken, fun _ => ⟨rfl, rfl⟩, absurd hcc,
      completes_of_completeAt (he.trans (ite_cond_of_condHolds hcc _ _))⟩
  · exact ⟨_, notTaken, (absurd · hcc), fun _ => ⟨rfl, rfl⟩,
      completes_of_complete (he.trans (ite_cond_of_not_condHolds hcc _ _))⟩

/-- The target of `JR` is the sum of the integers modulo 65536 (R182). -/
theorem relativeTarget_eq_ofInt (pc : Word) (e8 : Byte) :
    relativeTarget pc e8 = BitVec.ofInt 16 ((pc.toNat : Int) + 2 + e8.toInt) := by
  simp [relativeTarget, sext16, BitVec.signExtend, BitVec.ofInt_add]

theorem encode_jpCond (cc : Cond) (a16 : Word) :
    encode (.jpCond cc a16) = [byteOf (0xC2 + 8 * cc.code), loByte a16, hiByte a16] := by
  cases cc <;> rfl

theorem exec_jpCond (cc : Cond) (a16 : Word) (s : State) :
    exec (.jpCond cc a16) s = jumpIf cc a16 3 (s.cyclesOf (.jpCond cc a16) 4)
      (s.cyclesNotTakenOf (.jpCond cc a16) 3) s := by cases cc <;> rfl

theorem encode_jrCond (cc : Cond) (e8 : Byte) :
    encode (.jrCond cc e8) = [byteOf (0x20 + 8 * cc.code), e8] := by cases cc <;> rfl

theorem exec_jrCond (cc : Cond) (e8 : Byte) (s : State) :
    exec (.jrCond cc e8) s = jumpIf cc (relativeTarget s.cpu.pc e8) 2
      (s.cyclesOf (.jrCond cc e8) 3) (s.cyclesNotTakenOf (.jrCond cc e8) 2) s := by
  cases cc <;> rfl

/-- Settles O29: the unconditional forms are `completeAt` their target, the conditional `jumpIf`. -/
theorem jumps : Obligations.Jumps :=
  ⟨fun _ => jumpsTo_of_completeAt rfl fun _ => rfl,
    jumpsTo_of_completeAt rfl fun _ => rfl,
    fun e8 => jumpsTo_of_completeAt rfl fun s => relativeTarget_eq_ofInt s.cpu.pc e8 ▸ rfl,
    fun cc a16 => ⟨encode_jpCond cc a16, fun s => completes_of_jumpIf (exec_jpCond cc a16 s)⟩,
    fun cc e8 => ⟨encode_jrCond cc e8, fun s =>
      relativeTarget_eq_ofInt s.cpu.pc e8 ▸ completes_of_jumpIf (exec_jrCond cc e8 s)⟩⟩

/-! ## Calling -/

theorem encode_callCond (cc : Cond) (a16 : Word) :
    encode (.callCond cc a16) = [byteOf (0xC4 + 8 * cc.code), loByte a16, hiByte a16] := by
  cases cc <;> rfl

theorem exec_callCond (cc : Cond) (a16 : Word) (s : State) :
    exec (.callCond cc a16) s = callIf cc a16 (s.cyclesOf (.callCond cc a16) 6)
      (s.cyclesNotTakenOf (.callCond cc a16) 3) s := by cases cc <;> rfl

theorem encode_rst (n : Num8) : encode (.rst n) = [byteOf (0xC7 + 8 * n.val)] := by
  cases n <;> rfl

theorem exec_rst (n : Num8) (s : State) :
    exec (.rst n) s = callTo (BitVec.ofNat 16 (8 * n.val)) 1 (s.cyclesOf (.rst n) 4) s := by
  cases n <;> rfl

/-- A call retires from the pushed state (R184). -/
theorem callsTo_of_callTo {i : Instr} {bytes : List Byte} {s : State} {target : Word}
    {length table : Nat} (henc : encode i = bytes)
    (he : exec i s = callTo target length (s.cyclesOf i table) s) :
    CallsTo i bytes target (BitVec.ofNat 16 length) table s := by
  refine ⟨henc, completes_of_retire he (by simp) fun pc k n => ?_⟩
  exact ⟨(pushes_push16 _ s).retire pc k n, (keepsRegs_push16 [] _ s).retire pc k n, by simp,
    by simp⟩

/-- Settles O30: `CALL`, a taken `CALL cc` and `RST` are `callTo`; a `CALL cc` not taken goes on. -/
theorem calls : Obligations.Calls :=
  ⟨fun _ _ => callsTo_of_callTo rfl rfl,
    fun cc a16 s hcc => callsTo_of_callTo (encode_callCond cc a16)
      ((exec_callCond cc a16 s).trans (ite_cond_of_condHolds hcc _ _)),
    fun cc a16 s hcc => completes_of_complete
      ((exec_callCond cc a16 s).trans (ite_cond_of_not_condHolds hcc _ _)),
    fun n s => callsTo_of_callTo (encode_rst n) (exec_rst n s)⟩

/-! ## Returning -/

/-- The state after a return's pop (R107), with `IME` as the return leaves it. -/
def returned (ime : Bool) (s : State) : State :=
  s.withCpu ((s.cpu.withSp (s.cpu.sp + 2#16)).withIme ime)

theorem returnTo_eq (n : Nat) (s : State) :
    returnTo n s = completeAt (topWord s) n (returned s.cpu.ime s) := by
  rw [returnTo, popState_eq]
  rfl

theorem returnFromInterrupt_eq (n : Nat) (s : State) :
    returnFromInterrupt n s = completeAt (topWord s) n (returned true s) := by
  simp only [returnFromInterrupt, popState_eq, popValue, busRead_withCpu]
  rfl

theorem encode_retCond (cc : Cond) : encode (.retCond cc) = [byteOf (0xC0 + 8 * cc.code)] := by
  cases cc <;> rfl

theorem exec_retCond (cc : Cond) (s : State) :
    exec (.retCond cc) s = returnIf cc (s.cyclesOf (.retCond cc) 5)
      (s.cyclesNotTakenOf (.retCond cc) 2) s := by cases cc <;> rfl

/-- A return goes to the word on top of the stack, drops it and leaves `IME` as given. -/
theorem completesIn_of_returned {i : Instr} {s : State} {ime : Bool} {table : Nat}
    (he : exec i s = completeAt (topWord s) (s.cyclesOf i table) (returned ime s)) :
    CompletesIn i s (topWord s) table (fun t =>
      (t.cpu.sp = s.cpu.sp + 2#16 ∧ KeepsRegs [] s t ∧ t.cpu.f = s.cpu.f ∧
        t.cpu.halted = s.cpu.halted ∧ NoStore s t) ∧ t.cpu.ime = ime) := by
  refine completes_of_retire he ⟨rfl, rfl⟩ fun pc k n => ?_
  have hregs : KeepsRegs [] s (returned ime s) := fun q _ => by simp [returned]
  exact ⟨⟨rfl, hregs.retire pc k n, rfl, rfl, by simp [returned]⟩, rfl⟩

/-- Settles O31: `RET` and a taken `RET cc` keep `IME`, `RETI` sets it; a `RET cc` not taken goes
on. -/
theorem returns : Obligations.Returns :=
  ⟨rfl, rfl, encode_retCond, fun s =>
    ⟨completesIn_of_returned (i := .ret) (returnTo_eq _ s),
      completesIn_of_returned (i := .reti) (returnFromInterrupt_eq _ s), fun cc =>
      ⟨fun hcc => completesIn_of_returned
          ((exec_retCond cc s).trans ((ite_cond_of_condHolds hcc _ _).trans (returnTo_eq _ s))),
        fun hcc => completes_of_complete
          ((exec_retCond cc s).trans (ite_cond_of_not_condHolds hcc _ _))⟩⟩⟩

end Sys2Proof.Machine
end

section
/-! PROOFS. System instructions and the unassigned bytes (R190 to R196). `DI`, `EI` and `HALT` write
`IME` or `halted` and go on to the next instruction; the others only go on. -/

namespace Sys2Proof.Machine

/-- `IME` and `halted` are written, and the instruction goes on to the next one. -/
theorem completesIn_of_control {i : Instr} {s : State} {ime halted : Bool} {table : Nat}
    (he : exec i s = complete 1 (s.cyclesOf i table)
      (s.withCpu ((s.cpu.withIme ime).withHalted halted))) :
    CompletesIn i s (s.cpu.pc + 1#16) table (fun t =>
      t.cpu.ime = ime ∧ t.cpu.halted = halted ∧ KeepsRegs [] s t ∧ KeepsFlagsSp s t ∧
      NoStore s t) := by
  refine completesIn_of_complete he (by simp) (by simp) fun pc k n => ?_
  have hregs : KeepsRegs [] s (s.withCpu ((s.cpu.withIme ime).withHalted halted)) :=
    fun q _ => by simp
  exact ⟨rfl, rfl, hregs.retire pc k n, by simp, by simp⟩

theorem encode_unassigned : ∀ bi ∈ unassignedBytes, encode bi.2 = [bi.1] := by decide

/-- The unassigned bytes all mean the same (R196). -/
theorem exec_unassigned {bi : Byte × Instr} (h : bi ∈ unassignedBytes) (s : State) :
    exec bi.2 s = complete 1 s.params.invalidCycles s := by
  fin_cases h <;> rfl

/-- Settles O32: `NOP`, `STOP` and the unassigned bytes go on to the next instruction; `DI` and `EI`
write `IME` and leave `halted` as it is. -/
theorem noOperationsAndImeWrites : Obligations.NoOperationsAndImeWrites := by
  refine ⟨rfl, jumpsTo_of_completeAt rfl fun _ => rfl,
    fun _ => jumpsTo_of_completeAt rfl fun _ => rfl,
    fun bi hbi => jumpsTo_of_completeAt (encode_unassigned bi hbi) (exec_unassigned hbi),
    fun iv hiv => ?_⟩
  simp only [List.mem_cons, List.not_mem_nil, or_false] at hiv
  obtain rfl | rfl := hiv
  · exact ⟨rfl, fun _ => completesIn_of_control rfl⟩
  · exact ⟨rfl, fun _ => completesIn_of_control rfl⟩

/-- Settles O33: `HALT` writes `halted` and leaves `IME` as it is. -/
theorem haltSuspends : Obligations.HaltSuspends :=
  ⟨rfl, fun s => (completesIn_of_control (ime := s.cpu.ime) rfl).imp
    fun _ ⟨hime, hhalted, hrest⟩ => ⟨hhalted, hime, hrest⟩⟩

end Sys2Proof.Machine
end

section
/-! PROOFS. A halted CPU with no enabled source (R191, R248, R259). Where nothing is pending the CPU
step idles; the devices write no register but their own, `IE` not among them (R65, R226). -/

namespace Sys2Proof.Machine

/-! ## What the devices write -/

/-- The registers that the devices write (R198, R199, R209, R211, R246). -/
def IoMap.deviceRegisters (m : IoMap) : List Word := [m.div, m.tima, m.iflag, m.stat, m.ly]

theorem IoMap.deviceRegisters_subset_plain (m : IoMap) : m.deviceRegisters ⊆ m.plain := by
  simp [IoMap.deviceRegisters, IoMap.plain]

/-- `IE` is none of the devices' registers: it is the last of the plain ones, which are distinct. -/
theorem IoMap.Valid.ienable_not_mem {m : IoMap} (h : m.Valid) : m.ienable ∉ m.deviceRegisters := by
  have hlast : m.ienable ∉ m.plain.dropLast :=
    (List.nodup_concat m.plain.dropLast m.ienable).1 h.plain_nodup |>.1
  have hsub : m.deviceRegisters ⊆ m.plain.dropLast := by
    simp [IoMap.deviceRegisters, IoMap.plain]
  exact fun hmem => hlast (hsub hmem)

theorem IoMap.Valid.ienable_internal {m : IoMap} (h : m.Valid) : regionOf m.ienable = .internal :=
  h.internal _ (by simp [IoMap.addresses, IoMap.plain])

/-- `t` comes from `s` by changes of the timer and of the PPU, and by stores to the registers that
the devices write: `DevicesAct` with the addresses of the stores instead of the pixels drawn. -/
inductive DevicesWrite (s : State) : State → Prop
  | refl : DevicesWrite s s
  | setTimer {t : State} (tm : Timer) (h : DevicesWrite s t) : DevicesWrite s { t with timer := tm }
  | setPpu {t : State} (p : Ppu) (h : DevicesWrite s t) : DevicesWrite s (t.withPpu p)
  | store {t : State} {a : Word} (ha : a ∈ t.io.deviceRegisters) (v : Byte) (h : DevicesWrite s t) :
      DevicesWrite s (busWrite a v t)

namespace DevicesWrite

variable {s t u : State}

theorem trans (h : DevicesWrite s t) (h' : DevicesWrite t u) : DevicesWrite s u := by
  induction h' with
  | refl => exact h
  | setTimer tm _ ih => exact ih.setTimer tm
  | setPpu p _ ih => exact ih.setPpu p
  | store ha v _ ih => exact ih.store ha v

theorem times {f : State → State} (hf : ∀ u, DevicesWrite u (f u)) (n : Nat) (s : State) :
    DevicesWrite s (times n f s) :=
  times_rel (fun _ => refl) (fun _ _ _ => trans) hf n s

theorem setInterruptFlag (h : DevicesWrite s t) (i : Nat) (value : Bool) :
    DevicesWrite s (setInterruptFlag i value t) := h.store (by simp [IoMap.deviceRegisters]) _

theorem setMode (h : DevicesWrite s t) (m : PpuMode) : DevicesWrite s (setMode m t) := by
  have hstat (st : Byte) :
      DevicesWrite s (busWrite t.io.stat st (t.withPpu { t.ppu with mode := m })) :=
    (h.setPpu _).store (by simp [IoMap.deviceRegisters]) st
  simp only [Machine.setMode]
  split <;> split
  · exact ((hstat _).setInterruptFlag 1 true).setInterruptFlag 0 true
  · exact (hstat _).setInterruptFlag 0 true
  · exact (hstat _).setInterruptFlag 1 true
  · exact hstat _

theorem launch (h : DevicesWrite s t) : t.launch = s.launch := by
  induction h with
  | refl => rfl
  | setTimer _ _ ih | setPpu _ _ ih => exact ih
  | store _ v _ ih => simpa using ih

/-- With legal I/O addresses every other address reads as before (R65, R226). -/
theorem busRead_eq (h : DevicesWrite s t) (hio : s.io.Valid) {x : Word}
    (hx : x ∉ s.io.deviceRegisters) : busRead x t = busRead x s := by
  induction h with
  | refl => rfl
  | setTimer _ _ ih | setPpu _ _ ih => exact ih
  | @store t a ha v h ih =>
    have hsame : t.io = s.io := congrArg (·.params.io) h.launch
    have hplain := t.io.deviceRegisters_subset_plain ha
    have hne : x ≠ a := fun heq => hx (heq ▸ hsame ▸ ha)
    rw [busWrite_plain (hsame ▸ hio) hplain v, busRead_memWrite a x v t hne, ih]

end DevicesWrite

/-! ## The timer -/

theorem divIncrement_writes (s : State) : DevicesWrite s (divIncrement s) :=
  DevicesWrite.refl.store (by simp [IoMap.deviceRegisters]) _

theorem timaIncrement_writes (s : State) : DevicesWrite s (timaIncrement s) := by
  have hstore (v : Byte) : DevicesWrite s (busWrite s.io.tima v s) :=
    DevicesWrite.refl.store (by simp [IoMap.deviceRegisters]) v
  simp only [timaIncrement]
  split
  · exact (hstore _).setInterruptFlag 2 true
  · exact hstore _

theorem divUpdate_writes (ticks : Nat) (s : State) : DevicesWrite s (divUpdate ticks s) :=
  (DevicesWrite.refl.setTimer _).trans (.times divIncrement_writes _ _)

theorem timaUpdate_writes (ticks : Nat) (s : State) : DevicesWrite s (timaUpdate ticks s) := by
  simp only [timaUpdate]
  split
  · exact (DevicesWrite.refl.setTimer _).trans (.times timaIncrement_writes _ _)
  · exact .refl

theorem timerUpdate_writes (cycles : Nat) (s : State) : DevicesWrite s (timerUpdate cycles s) :=
  (divUpdate_writes _ s).trans (timaUpdate_writes _ _)

/-! ## The PPU -/

/-- A tick of mode 3 changes the PPU and nothing else. -/
def ChangesPpuOnly (s t : State) : Prop := t = s.withPpu t.ppu

theorem ChangesPpuOnly.trans {s t u : State} (h : ChangesPpuOnly s t) (h' : ChangesPpuOnly t u) :
    ChangesPpuOnly s u := by
  unfold ChangesPpuOnly at h h' ⊢
  rw [h', h]
  rfl

theorem windowEntry_changesPpuOnly (s : State) : ChangesPpuOnly s (windowEntry s) := by
  unfold windowEntry
  split <;> rfl

theorem spriteFetch_changesPpuOnly (s : State) : ChangesPpuOnly s (spriteFetch s) := by
  simp only [spriteFetch, spriteStage]
  split
  · split <;> rfl
  · rfl

theorem fetcherTick_changesPpuOnly (s : State) : ChangesPpuOnly s (fetcherTick s) := by
  simp only [fetcherTick, fetcherStage]
  split
  · rfl
  · split
    case h_4 => split <;> rfl
    all_goals rfl

theorem popPixel_changesPpuOnly (s : State) : ChangesPpuOnly s (popPixel s) := by
  simp only [popPixel]
  split
  · rfl
  · split
    · rfl
    · split <;> rfl

theorem triggerOrPop_changesPpuOnly (s : State) : ChangesPpuOnly s (triggerOrPop s) := by
  unfold triggerOrPop
  split
  · rfl
  · exact popPixel_changesPpuOnly s

theorem mode3Tick_changesPpuOnly (s : State) : ChangesPpuOnly s (mode3Tick s) := by
  refine (windowEntry_changesPpuOnly s).trans ?_
  simp only [mode3Tick]
  split
  · exact spriteFetch_changesPpuOnly _
  · exact (fetcherTick_changesPpuOnly _).trans (triggerOrPop_changesPpuOnly _)

theorem mode3Tick_writes (s : State) : DevicesWrite s (mode3Tick s) :=
  mode3Tick_changesPpuOnly s ▸ DevicesWrite.refl.setPpu _

theorem endLine_writes (s : State) : DevicesWrite s (endLine s) := by
  unfold endLine
  extract_lets p ly s1
  have hs1 : DevicesWrite s s1 :=
    (DevicesWrite.refl.setPpu _).store (by simp [IoMap.deviceRegisters]) ly
  split
  · exact (hs1.setPpu _).setMode .vblank
  · exact hs1.setMode .scan

theorem vblankLine_writes (s : State) : DevicesWrite s (vblankLine s) := by
  have hly (v : Byte) : DevicesWrite s (busWrite s.io.ly v (s.withPpu { s.ppu with dot := 0 })) :=
    (DevicesWrite.refl.setPpu _).store (by simp [IoMap.deviceRegisters]) v
  simp only [vblankLine]
  split
  · exact ((hly _).setPpu _).setMode .scan
  · exact hly _

theorem ppuTick_writes (s : State) : DevicesWrite s (ppuTick s) := by
  refine (DevicesWrite.refl.setPpu { s.ppu with dot := s.ppu.dot + 1 }).trans ?_
  simp only [ppuTick]
  split
  case h_1 =>
    split
    · exact ((DevicesWrite.refl.setPpu _).setPpu _).setMode .transfer
    · exact .refl
  case h_2 =>
    split
    · exact (mode3Tick_writes _).setMode .hblank
    · exact mode3Tick_writes _
  case h_3 =>
    split
    · exact endLine_writes _
    · exact .refl
  case h_4 =>
    split
    · exact vblankLine_writes _
    · exact .refl

theorem ppuUpdate_writes (cycles : Nat) (s : State) : DevicesWrite s (ppuUpdate cycles s) :=
  .times ppuTick_writes _ s

/-! ## The devices' part of the step -/

@[simp] theorem advanceDevices_cpu (s : State) : (advanceDevices s).cpu = s.cpu := by
  obtain ⟨hcpu, -⟩ := ((timerUpdate_acts s.cpu.spent s).trans (ppuUpdate_acts _ _)).cpu_launch
  exact hcpu

theorem busRead_advanceDevices {s : State} (hio : s.io.Valid) {x : Word}
    (hx : x ∉ s.io.deviceRegisters) : busRead x (advanceDevices s) = busRead x s :=
  ((timerUpdate_writes s.cpu.spent s).trans (ppuUpdate_writes _ _)).busRead_eq hio hx

/-! ## The CPU's part of the step -/

theorem hostActions_of_none {s : State} (h : dueHostEvents s.launch = []) : hostActions s = s := by
  simp [hostActions, h]

@[simp] theorem overlayCheck_cpu (s : State) : (overlayCheck s).cpu = s.cpu := by
  unfold overlayCheck
  split <;> rfl

@[simp] theorem overlayCheck_launch (s : State) : (overlayCheck s).launch = s.launch := by
  unfold overlayCheck
  split <;> rfl

/-- The overlay's end is seen in the cartridge ROM window only (R240). -/
theorem busRead_overlayCheck {x : Word} (s : State) (h : regionOf x = .internal) :
    busRead x (overlayCheck s) = busRead x s := by
  unfold overlayCheck
  split
  · simp only [busRead, h, State.io_eq]
  · rfl

/-- With no source enabled none is pending. -/
theorem pendingInterrupts_of_none_enabled {s : State}
    (hie : busRead s.io.ienable s &&& 0x1F#8 = 0#8) : pendingInterrupts s = 0#8 := by
  have hcomm : pendingInterrupts s =
      (busRead s.io.ienable s &&& 0x1F#8) &&& busRead s.io.iflag s := by
    unfold pendingInterrupts
    ac_rfl
  rw [hcomm, hie, BitVec.zero_and]

/-- Halted and with nothing pending, the CPU counts its idle cycles (R248). -/
theorem cpuStep_idle {s : State} (hhalted : s.cpu.halted = true)
    (hpending : pendingInterrupts s = 0#8) :
    cpuStep s = .next (s.withCpu (s.cpu.retire s.params.clock s.params.haltIdleCycles)) := by
  have hwake : wake s = s := if_neg (not_not.2 hpending)
  simp [cpuStep, hwake, hpending, hhalted]

/-- The whole step of a halted CPU with no source enabled: it idles, and the devices go on. -/
theorem step_of_none_enabled {s : State} (hio : s.io.Valid) (hhost : dueHostEvents s.launch = [])
    (hhalted : s.cpu.halted = true) (hie : busRead s.io.ienable s &&& 0x1F#8 = 0#8) :
    step s = .next (advanceDevices ((overlayCheck s).withCpu
      (s.cpu.retire s.params.clock s.params.haltIdleCycles))) := by
  have hchecked : busRead s.io.ienable (overlayCheck s) = busRead s.io.ienable s :=
    busRead_overlayCheck s hio.ienable_internal
  have hpending : pendingInterrupts (overlayCheck s) = 0#8 :=
    pendingInterrupts_of_none_enabled (by simpa using hchecked ▸ hie)
  have hidle := cpuStep_idle (s := overlayCheck s) (by simpa using hhalted) hpending
  simp [step, machineUpdate, hostActions_of_none hhost, hidle]

/-- Settles O9: the CPU idles, and the devices then change neither the CPU nor `IE`. -/
theorem stuckHaltStaysStuck : Obligations.StuckHaltStaysStuck := by
  intro s t hvalid hhost hhalted hie ht
  have hio := hvalid.io
  obtain rfl := Host.Outcome.next.inj ((step_of_none_enabled hio hhost hhalted hie).symm.trans ht)
  refine ⟨by simp [hhalted], by simp, by simp, by simp, fun r _ => by simp, ⟨by simp, by simp⟩,
    ?_⟩
  rw [busRead_advanceDevices (by simpa using hio) (by simpa using hio.ienable_not_mem),
    busRead_withCpu, busRead_overlayCheck s hio.ienable_internal]

end Sys2Proof.Machine
end

section
/-! PROOFS. The pixel pipeline (R206, R211 to R225): the OAM scan, the tile row address, merging a
sprite's row into the queue, what a tick of mode 3 does to the queue, the output column and the
frame buffer, what the end of a line does to the PPU, and the PPU's invariant. -/

namespace Sys2Proof.Machine

/-! ## The OAM scan and the tile row address (R213, R221) -/

/-- Settles O51: selecting among the entries is selecting among their indexes. -/
theorem oamScanSelects : Obligations.OamScanSelects := by
  intro s
  refine ⟨?_, by simp [oamScan], rfl⟩
  show selectSprites _ _ _ = _
  rw [selectSprites, List.filter_map, ← List.map_take]
  rfl

/-- The unsigned mode reaches the first two of VRAM's three tile blocks. -/
theorem tileRowAddr_true_toNat (id : Byte) {line : Byte} (h : line.toNat < 8) :
    (tileRowAddr true id line).toNat = 0x8000 + 16 * id.toNat + 2 * line.toNat := by
  have hid := id.isLt
  simp only [tileRowAddr, if_true, BitVec.toNat_ofNat]
  omega

/-- The signed mode reaches the last two. -/
theorem tileRowAddr_false_toNat (id : Byte) {line : Byte} (h : line.toNat < 8) :
    ((tileRowAddr false id line).toNat : Int) = 0x9000 + 16 * id.toInt + 2 * line.toNat := by
  have hlo : -128 ≤ id.toInt := BitVec.le_toInt id
  have hhi : id.toInt < 128 := BitVec.toInt_lt
  simp only [tileRowAddr, Bool.false_eq_true, if_false, BitVec.toNat_ofInt]
  omega

/-- Settles O52: both sums stay below 0xA000, so neither wraps. -/
theorem tileRowAddressInVram : Obligations.TileRowAddressInVram := by
  intro id line hline
  have hunsigned := tileRowAddr_true_toNat id hline
  have hsigned := tileRowAddr_false_toNat id hline
  refine ⟨hunsigned, hsigned, fun mode => ?_⟩
  have hid := id.isLt
  have hlo : -128 ≤ id.toInt := BitVec.le_toInt id
  have hhi : id.toInt < 128 := BitVec.toInt_lt
  cases mode <;> omega

/-! ## Merging a sprite's row (R219) -/

/-- Column `i` of a sprite stands over queue position `j` (R219). -/
def ColumnAt (sp : Sprite) (lx i j : Nat) : Prop := sp.x.toNat + i = j + (8 + lx)

/-- A column changes at most the position it stands over, and there to the merged pixel. -/
theorem mergeColumn_getElem? (sp : Sprite) (hi lo pal : Byte) (lx : Nat) (fifo : List Pixel)
    (i j : Nat) :
    (mergeColumn sp hi lo pal lx fifo i)[j]? = fifo[j]? ∨
      ColumnAt sp lx i j ∧ ∃ old px, fifo[j]? = some old ∧
        mergedPixel sp hi lo pal i old = some px ∧
        (mergeColumn sp hi lo pal lx fifo i)[j]? = some px := by
  unfold mergeColumn
  split
  · exact .inl rfl
  next hin =>
    dsimp only
    split
    · exact .inl rfl
    next old hold =>
      split
      · exact .inl rfl
      next px hpx =>
        by_cases hj : sp.x.toNat + i - (8 + lx) = j
        · subst hj
          have hlt := (List.getElem?_eq_some_iff.1 hold).1
          refine .inr ⟨?_, old, px, hold, hpx, List.getElem?_set_self hlt⟩
          unfold ColumnAt
          omega
        · exact .inl (List.getElem?_set_ne hj)

theorem mergeColumn_length (sp : Sprite) (hi lo pal : Byte) (lx : Nat) (fifo : List Pixel)
    (i : Nat) : (mergeColumn sp hi lo pal lx fifo i).length = fifo.length := by
  unfold mergeColumn
  split
  · rfl
  · dsimp only
    split
    · rfl
    · split
      · rfl
      · exact List.length_set

@[simp] theorem mergeSprite_length (sp : Sprite) (hi lo pal : Byte) (lx : Nat) (fifo : List Pixel) :
    (mergeSprite sp hi lo pal lx fifo).length = fifo.length :=
  List.foldlRecOn (motive := fun out : List Pixel => out.length = fifo.length) (List.range 8) _ rfl
    fun _ hb i _ => (mergeColumn_length sp hi lo pal lx _ i).trans hb

/-- A pixel stays if no column of the sprite that stands over it replaces it. -/
theorem mergeSprite_getElem?_of_kept {sp : Sprite} {hi lo pal : Byte} {lx j : Nat}
    {fifo : List Pixel} {old : Pixel} (hold : fifo[j]? = some old)
    (hkept : ∀ i < 8, ColumnAt sp lx i j → mergedPixel sp hi lo pal i old = none) :
    (mergeSprite sp hi lo pal lx fifo)[j]? = some old := by
  refine List.foldlRecOn (motive := fun out : List Pixel => out[j]? = some old) (List.range 8) _
    hold fun out hout i hi8 => ?_
  obtain hsame | ⟨hat, cur, px, hcur, hpx, -⟩ := mergeColumn_getElem? sp hi lo pal lx out i j
  · exact hsame.trans hout
  · obtain rfl : cur = old := Option.some.inj (hcur.symm.trans hout)
    simp [hkept i (List.mem_range.1 hi8) hat] at hpx

theorem mergedPixel_obj {sp : Sprite} {hi lo pal : Byte} {i : Nat} {old px : Pixel}
    (h : mergedPixel sp hi lo pal i old = some px) : px.obj = true := by
  obtain ⟨-, hpx⟩ := Option.ite_none_left_eq_some.1 h
  cases hpx
  rfl

theorem mergedPixel_of_owned {old : Pixel} (h : old.obj = true) (sp : Sprite) (hi lo pal : Byte)
    (i : Nat) : mergedPixel sp hi lo pal i old = none := by
  simp [mergedPixel, h]

/-- A sprite behind the background does not show over a nonzero pixel. -/
theorem mergedPixel_of_behind {sp : Sprite} {old : Pixel} (hsp : bitOf sp.attr 7 = true)
    (hcolor : old.color ≠ 0#2) (hi lo pal : Byte) (i : Nat) :
    mergedPixel sp hi lo pal i old = none := by
  simp [mergedPixel, hsp, hcolor]

/-- A pixel that was in the queue is, after the merge, as it was or owned by a sprite. -/
theorem mergeSprite_getElem?_of_changed {sp : Sprite} {hi lo pal : Byte} {lx j : Nat}
    {fifo : List Pixel} {old : Pixel} (hold : fifo[j]? = some old) :
    (mergeSprite sp hi lo pal lx fifo)[j]? = some old ∨
      ∃ px, (mergeSprite sp hi lo pal lx fifo)[j]? = some px ∧ px.obj = true := by
  refine List.foldlRecOn
    (motive := fun out : List Pixel => out[j]? = some old ∨ ∃ px, out[j]? = some px ∧ px.obj = true)
    (List.range 8) _ (.inl hold) fun out hout i _ => ?_
  obtain hsame | ⟨-, _, px, -, hpx, hnew⟩ := mergeColumn_getElem? sp hi lo pal lx out i j
  · rwa [hsame]
  · exact .inr ⟨px, hnew, mergedPixel_obj hpx⟩

/-- Settles O54: a column changes one pixel, and only where `mergedPixel` answers one, which is then
owned by a sprite. -/
theorem spriteMergeFrame : Obligations.SpriteMergeFrame := by
  intro sp hi lo pal lx fifo
  refine ⟨mergeSprite_length sp hi lo pal lx fifo, fun j old hold => ⟨fun hobj => ?_,
    fun hout => ?_, fun hsp hcolor => ?_, fun hne => ?_⟩⟩
  · exact mergeSprite_getElem?_of_kept hold fun i _ _ => mergedPixel_of_owned hobj sp hi lo pal i
  · refine mergeSprite_getElem?_of_kept hold fun i hi8 hat => ?_
    unfold ColumnAt at hat
    omega
  · exact mergeSprite_getElem?_of_kept hold fun i _ _ =>
      mergedPixel_of_behind hsp hcolor hi lo pal i
  · obtain hsame | ⟨⟨color, obj⟩, hnew, rfl⟩ := mergeSprite_getElem?_of_changed hold
    · exact absurd hsame hne
    · exact ⟨color, hnew⟩

/-! ## The mode, the column and the frame buffer in a tick of mode 3 -/

/-- The mode, the output column and the frame buffer are as before. -/
def KeepsOutput (s t : State) : Prop :=
  t.ppu.mode = s.ppu.mode ∧ t.ppu.lx = s.ppu.lx ∧ t.ppu.fb = s.ppu.fb

theorem KeepsOutput.trans {s t u : State} (h : KeepsOutput s t) (h' : KeepsOutput t u) :
    KeepsOutput s u := by
  obtain ⟨hmode, hlx, hfb⟩ := h
  obtain ⟨hmode', hlx', hfb'⟩ := h'
  exact ⟨hmode'.trans hmode, hlx'.trans hlx, hfb'.trans hfb⟩

theorem windowEntry_keepsOutput (s : State) : KeepsOutput s (windowEntry s) := by
  unfold windowEntry
  split <;> exact ⟨rfl, rfl, rfl⟩

theorem spriteFetch_keepsOutput (s : State) : KeepsOutput s (spriteFetch s) := by
  simp only [spriteFetch, spriteStage]
  split
  · split <;> exact ⟨rfl, rfl, rfl⟩
  · exact ⟨rfl, rfl, rfl⟩

theorem fetcherTick_keepsOutput (s : State) : KeepsOutput s (fetcherTick s) := by
  simp only [fetcherTick, fetcherStage]
  split
  · exact ⟨rfl, rfl, rfl⟩
  · split
    case h_4 => split <;> exact ⟨rfl, rfl, rfl⟩
    all_goals exact ⟨rfl, rfl, rfl⟩

/-- The frame buffer with `color` drawn at the output column, on a visible row (R223). -/
def State.drawn (s : State) (color : BitVec 2) : Store 2 :=
  if (busRead s.io.ly s).toNat < 144 ∧ s.ppu.lx < 160 then
    Store.write s.ppu.fb (160 * (busRead s.io.ly s).toNat + s.ppu.lx) color
  else s.ppu.fb

/-- Step E (R223): nothing happens, or the head of the queue leaves it, discarded or drawn, and at
least 8 pixels stay. -/
theorem popPixel_cases (s : State) :
    popPixel s = s ∨ ∃ px rest, s.ppu.fifo = px :: rest ∧ 8 ≤ rest.length ∧
      (popPixel s = s.withPpu { s.ppu with fifo := rest, discard := s.ppu.discard - 1 } ∨
        popPixel s = s.withPpu
          { s.ppu with fifo := rest, lx := s.ppu.lx + 1, fb := s.drawn px.color }) := by
  simp only [popPixel]
  split
  · exact .inl rfl
  next px rest hfifo =>
    split
    · exact .inl rfl
    next hlong =>
      have hrest : 8 ≤ rest.length := by simpa [hfifo] using hlong
      refine .inr ⟨px, rest, hfifo, hrest, ?_⟩
      split
      · exact .inl rfl
      · exact .inr rfl

/-- A tick of mode 3 keeps the output, or draws the pixel that the fetcher's step has left at the
head of the queue (R215). -/
theorem mode3Tick_cases (s : State) :
    KeepsOutput s (mode3Tick s) ∨
      ∃ px rest, (fetcherTick (windowEntry s)).ppu.fifo = px :: rest ∧ 8 ≤ rest.length ∧
        (mode3Tick s).ppu.mode = s.ppu.mode ∧ (mode3Tick s).ppu.fifo = rest ∧
        (mode3Tick s).ppu.lx = s.ppu.lx + 1 ∧ (mode3Tick s).ppu.fb = s.drawn px.color := by
  have hentry := windowEntry_keepsOutput s
  have hfetch := hentry.trans (fetcherTick_keepsOutput (windowEntry s))
  simp only [mode3Tick]
  split
  · exact .inl (hentry.trans (spriteFetch_keepsOutput _))
  · unfold triggerOrPop
    split
    · exact .inl (hfetch.trans ⟨rfl, rfl, rfl⟩)
    · obtain hpop | ⟨px, rest, hfifo, hrest, hpop | hpop⟩ :=
        popPixel_cases (fetcherTick (windowEntry s)) <;> rw [hpop]
      · exact .inl hfetch
      · exact .inl (hfetch.trans ⟨rfl, rfl, rfl⟩)
      · have hppu := (windowEntry_changesPpuOnly s).trans
          (fetcherTick_changesPpuOnly (windowEntry s))
        obtain ⟨hmode, hlx, hfb⟩ := hfetch
        refine .inr ⟨px, rest, hfifo, hrest, hmode, rfl, congrArg (· + 1) hlx, ?_⟩
        show State.drawn _ px.color = _
        unfold State.drawn
        rw [hlx, hfb, hppu]
        rfl

/-- Settles O53: the only thing a tick draws is the head of the queue, at the output column. -/
theorem modeThreeTickPopsOnePixel : Obligations.ModeThreeTickPopsOnePixel := by
  intro s hlx
  obtain ⟨-, hsame⟩ | ⟨px, rest, hfifo, hrest, -, hq, hcol, hfb⟩ := mode3Tick_cases s
  · exact .inl hsame
  · refine .inr ⟨hcol, hq ▸ hrest, px, hq ▸ hfifo, fun k => ?_⟩
    rw [hfb, State.drawn]
    by_cases hrow : (busRead s.io.ly s).toNat < 144
    · simp [hrow, hlx, Store.read_write]
    · simp [hrow]

/-! ## The pipeline's bounds -/

/-- The part of `PpuInv` that every step of a tick of mode 3 keeps: the bounds of the sprite list,
the queue, the pixels to discard and the sprite slot (R213, R214, R217, R222). -/
structure PipelineInv (p : Ppu) : Prop where
  sprites : p.sprites.length ≤ 10
  fifo : p.fifo.length ≤ 16
  discard : p.discard ≤ 7
  slot : p.fetcher.kind = .obj → p.fetcher.slot < p.sprites.length

theorem PpuInv.pipeline {s : State} (h : PpuInv s) : PipelineInv s.ppu :=
  ⟨h.sprites, h.fifo, h.discard, h.slot⟩

theorem PipelineInv.ppuInv {s : State} (h : PipelineInv s.ppu)
    (column : s.ppu.mode = .transfer → s.ppu.lx < 160)
    (scanDot : s.ppu.mode = .scan → s.ppu.dot < 80)
    (vblankDot : s.ppu.mode = .vblank → s.ppu.dot < 456) : PpuInv s :=
  ⟨h.sprites, h.fifo, h.discard, h.slot, column, scanDot, vblankDot⟩

/-- A change of the fetcher that keeps what it fetches and for which sprite. -/
theorem PipelineInv.setFetcher {p : Ppu} (h : PipelineInv p) {f : Fetcher}
    (hkind : f.kind = p.fetcher.kind) (hslot : f.slot = p.fetcher.slot) :
    PipelineInv { p with fetcher := f } :=
  { h with slot := fun hk => hslot ▸ h.slot (hkind ▸ hk) }

/-- The window starts with an empty queue, fetching no sprite (R216). -/
theorem windowEntry_pipeline {s : State} (h : PipelineInv s.ppu) :
    PipelineInv (windowEntry s).ppu := by
  unfold windowEntry
  split
  · exact { h with fifo := Nat.zero_le _, discard := Nat.zero_le _, slot := nofun }
  · exact h

/-- The last stage of a sprite fetch goes back to the background or the window (R218). -/
theorem spriteStage_pipeline {s : State} (h : PipelineInv s.ppu) :
    PipelineInv (spriteStage s).ppu := by
  simp only [spriteStage]
  split
  case h_3 =>
    have hkind : ∀ b : Bool, (if b = true then FetchKind.win else .bg) ≠ .obj := by decide
    exact ⟨by simpa using h.sprites, by simpa using h.fifo, h.discard,
      fun hk => absurd hk (hkind _)⟩
  all_goals exact h.setFetcher rfl rfl

theorem spriteFetch_pipeline {s : State} (h : PipelineInv s.ppu) :
    PipelineInv (spriteFetch s).ppu := by
  simp only [spriteFetch]
  split
  · exact spriteStage_pipeline h
  · exact h.setFetcher rfl rfl

/-- A row of 8 pixels is pushed only onto a queue of at most 8 (R220, R222). -/
theorem fetcherStage_pipeline {s : State} (h : PipelineInv s.ppu) (sub : Nat) :
    PipelineInv (fetcherStage sub s).ppu := by
  simp only [fetcherStage]
  split
  case h_4 =>
    split
    next hshort =>
      exact { h with fifo := by simp [pushRow, rowPixels]; omega, slot := h.slot }
    · exact h.setFetcher rfl rfl
  all_goals exact h.setFetcher rfl rfl

theorem fetcherTick_pipeline {s : State} (h : PipelineInv s.ppu) :
    PipelineInv (fetcherTick s).ppu := by
  simp only [fetcherTick]
  split
  · exact h.setFetcher rfl rfl
  · exact fetcherStage_pipeline h _

theorem popPixel_pipeline {s : State} (h : PipelineInv s.ppu) : PipelineInv (popPixel s).ppu := by
  obtain hpop | ⟨px, rest, hfifo, -, hpop⟩ := popPixel_cases s
  · rwa [hpop]
  · have hrest : rest.length ≤ 16 := by
      have := h.fifo
      simp only [hfifo, List.length_cons] at this
      omega
    obtain hpop | hpop := hpop <;> rw [hpop]
    · exact { h with fifo := hrest, discard := (Nat.sub_le _ _).trans h.discard }
    · exact { h with fifo := hrest }

/-- A due sprite is one of the list (R217). -/
theorem dueSprite_lt {s : State} {n : Nat} (h : dueSprite s = some n) :
    n < s.ppu.sprites.length := by
  unfold dueSprite at h
  split at h
  · exact (List.findIdx?_eq_some_iff_findIdx_eq.1 h).1
  · cases h

theorem triggerOrPop_pipeline {s : State} (h : PipelineInv s.ppu) :
    PipelineInv (triggerOrPop s).ppu := by
  unfold triggerOrPop
  split
  next n hdue => exact { h with slot := fun _ => dueSprite_lt hdue }
  · exact popPixel_pipeline h

theorem mode3Tick_pipeline {s : State} (h : PipelineInv s.ppu) : PipelineInv (mode3Tick s).ppu := by
  have hentry := windowEntry_pipeline h
  simp only [mode3Tick]
  split
  · exact spriteFetch_pipeline hentry
  · exact triggerOrPop_pipeline (fetcherTick_pipeline hentry)

/-- At the start of mode 3 the sprites are those of the scan and nothing is queued (R213, R214). -/
theorem mode3Init_oamScan_pipeline (s : State) : PipelineInv (mode3Init (oamScan s)).ppu where
  sprites := by
    show (List.take 10 _).length ≤ 10
    simp
  fifo := Nat.zero_le _
  discard := by
    show (busRead s.io.scx s &&& 7#8).toNat ≤ 7
    simpa using Nat.and_le_right
  slot := nofun

/-! ## A tick, mode by mode (R206) -/

/-- The state with one tick more in the scanline. -/
def State.nextDot (s : State) : State := s.withPpu { s.ppu with dot := s.ppu.dot + 1 }

theorem ppuTick_scan {s : State} (h : s.ppu.mode = .scan) :
    ppuTick s =
      if s.ppu.dot + 1 = 80 then setMode .transfer (mode3Init (oamScan s.nextDot))
      else s.nextDot := by
  simp only [ppuTick, State.withPpu_ppu, h, State.nextDot]

theorem ppuTick_transfer {s : State} (h : s.ppu.mode = .transfer) :
    ppuTick s =
      if (mode3Tick s.nextDot).ppu.lx = 160 then setMode .hblank (mode3Tick s.nextDot)
      else mode3Tick s.nextDot := by
  simp only [ppuTick, State.withPpu_ppu, h, State.nextDot]

theorem ppuTick_hblank {s : State} (h : s.ppu.mode = .hblank) :
    ppuTick s = if 456 ≤ s.ppu.dot + 1 then endLine s.nextDot else s.nextDot := by
  simp only [ppuTick, State.withPpu_ppu, h, State.nextDot]

theorem ppuTick_vblank {s : State} (h : s.ppu.mode = .vblank) :
    ppuTick s = if 456 ≤ s.ppu.dot + 1 then vblankLine s.nextDot else s.nextDot := by
  simp only [ppuTick, State.withPpu_ppu, h, State.nextDot]

/-- LY 143 ends the last visible line: V-blank is entered and the window's state cleared (R211). -/
theorem endLine_ppu_of_last {s : State} (h : busRead s.io.ly s = 143#8) :
    (endLine s).ppu =
      { s.ppu with
        mode := .vblank, dot := 0, windowLine := 0#8, wyReached := false
        windowEngaged := false } := by
  simp only [endLine, h]
  simp

/-- Every other line is followed by a visible one (R211). -/
theorem endLine_ppu_of_ne {s : State} (h : busRead s.io.ly s ≠ 143#8) :
    (endLine s).ppu =
      { s.ppu with
        mode := .scan, dot := 0
        windowLine :=
          if s.ppu.windowEngaged then s.ppu.windowLine + 1#8 else s.ppu.windowLine } := by
  have hne : busRead s.io.ly s + 1#8 ≠ 144#8 := fun heq => h ((BitVec.add_left_inj 1#8).1 heq)
  simp only [endLine, if_neg hne]
  simp

/-- LY 153 ends the frame (R212). -/
theorem vblankLine_ppu_of_last {s : State} (h : busRead s.io.ly s = 153#8) :
    (vblankLine s).ppu = { s.ppu with mode := .scan, dot := 0, frameDone := true } := by
  simp only [vblankLine, h]
  simp

theorem vblankLine_of_ne {s : State} (h : busRead s.io.ly s ≠ 153#8) :
    vblankLine s =
      busWrite s.io.ly (busRead s.io.ly s + 1#8) (s.withPpu { s.ppu with dot := 0 }) := by
  have hne : busRead s.io.ly s + 1#8 ≠ 154#8 := fun heq => h ((BitVec.add_left_inj 1#8).1 heq)
  simp only [vblankLine, if_neg hne]

/-- The end of a visible line starts the next one at tick 0, in mode 2 or 1. -/
theorem endLine_ppuInv {s : State} (h : PipelineInv s.ppu) : PpuInv (endLine s) := by
  by_cases hly : busRead s.io.ly s = 143#8
  · have hppu := endLine_ppu_of_last hly
    exact PipelineInv.ppuInv (hppu ▸ { h with }) (by simp [hppu]) (by simp [hppu]) (by simp [hppu])
  · have hppu := endLine_ppu_of_ne hly
    exact PipelineInv.ppuInv (hppu ▸ { h with }) (by simp [hppu]) (by simp [hppu]) (by simp [hppu])

/-- The end of a V-blank line starts the next one at tick 0, in mode 1 or 2. -/
theorem vblankLine_ppuInv {s : State} (h : PipelineInv s.ppu) (hmode : s.ppu.mode = .vblank) :
    PpuInv (vblankLine s) := by
  by_cases hly : busRead s.io.ly s = 153#8
  · have hppu := vblankLine_ppu_of_last hly
    exact PipelineInv.ppuInv (hppu ▸ { h with }) (by simp [hppu]) (by simp [hppu]) (by simp [hppu])
  · have hppu : (vblankLine s).ppu = { s.ppu with dot := 0 } := by simp [vblankLine_of_ne hly]
    exact PipelineInv.ppuInv (hppu ▸ { h with }) (by simp [hppu, hmode]) (by simp [hppu])
      (by simp [hppu])

theorem ppuTick_ppuInv {s : State} (h : PpuInv s) : PpuInv (ppuTick s) := by
  have hp : PipelineInv s.nextDot.ppu := { h.pipeline with }
  cases hm : s.ppu.mode with
  | scan =>
    rw [ppuTick_scan hm]
    split
    · have hstart := mode3Init_oamScan_pipeline s.nextDot
      exact PipelineInv.ppuInv (by simpa using { hstart with }) (by simp [mode3Init]) (by simp)
        (by simp)
    next hdot =>
      have := h.scanDot hm
      exact hp.ppuInv (by simp [State.nextDot, hm]) (fun _ => by simp [State.nextDot]; omega)
        (by simp [State.nextDot, hm])
  | transfer =>
    rw [ppuTick_transfer hm]
    have htick := mode3Tick_pipeline hp
    obtain ⟨hmode, hlx⟩ : (mode3Tick s.nextDot).ppu.mode = .transfer ∧
        (mode3Tick s.nextDot).ppu.lx ≤ s.ppu.lx + 1 := by
      obtain ⟨hmode, hlx, -⟩ | ⟨_, _, -, -, hmode, -, hlx, -⟩ := mode3Tick_cases s.nextDot
      · exact ⟨hmode.trans hm, hlx.le.trans (Nat.le_succ _)⟩
      · exact ⟨hmode.trans hm, hlx.le⟩
    split
    · exact PipelineInv.ppuInv (by simpa using { htick with }) (by simp) (by simp) (by simp)
    next hcol =>
      have := h.column hm
      exact htick.ppuInv (fun _ => by omega) (by simp [hmode]) (by simp [hmode])
  | hblank =>
    rw [ppuTick_hblank hm]
    split
    · exact endLine_ppuInv hp
    · exact hp.ppuInv (by simp [State.nextDot, hm]) (by simp [State.nextDot, hm])
        (by simp [State.nextDot, hm])
  | vblank =>
    rw [ppuTick_vblank hm]
    split
    · exact vblankLine_ppuInv hp hm
    next hdot =>
      exact hp.ppuInv (by simp [State.nextDot, hm]) (by simp [State.nextDot, hm])
        (fun _ => Nat.lt_of_not_le hdot)

/-! ## The invariant -/

/-- The invariant speaks of the PPU's own state only. -/
theorem PpuInv.of_ppu_eq {s t : State} (h : PpuInv s) (ht : t.ppu = s.ppu) : PpuInv t :=
  PipelineInv.ppuInv (ht ▸ h.pipeline) (ht ▸ h.column) (ht ▸ h.scanDot) (ht ▸ h.vblankDot)

theorem times_ppu {f : State → State} (hf : ∀ s, (f s).ppu = s.ppu) (n : Nat) (s : State) :
    (times n f s).ppu = s.ppu :=
  times_rel (R := fun s t => t.ppu = s.ppu) (fun _ => rfl) (fun _ _ _ h h' => h'.trans h) hf n s

theorem divUpdate_ppu (ticks : Nat) (s : State) : (divUpdate ticks s).ppu = s.ppu :=
  times_ppu (fun _ => by simp [divIncrement]) _ _

theorem timaIncrement_ppu (s : State) : (timaIncrement s).ppu = s.ppu := by
  simp only [timaIncrement]
  split <;> simp

theorem timaUpdate_ppu (ticks : Nat) (s : State) : (timaUpdate ticks s).ppu = s.ppu := by
  simp only [timaUpdate]
  split
  · exact times_ppu timaIncrement_ppu _ _
  · rfl

@[simp] theorem timerUpdate_ppu (cycles : Nat) (s : State) :
    (timerUpdate cycles s).ppu = s.ppu :=
  (timaUpdate_ppu _ _).trans (divUpdate_ppu _ s)

@[simp] theorem loadRom_ppu (image : List Byte) (s : State) : (loadRom image s).2.ppu = s.ppu := by
  unfold loadRom
  split <;> rfl

@[simp] theorem pressButton_ppu (btn : Button) (s : State) : (pressButton btn s).ppu = s.ppu := by
  simp only [pressButton]
  split
  · rfl
  · split <;> simp

theorem reset_ppuInv : PpuInv State.reset := by constructor <;> decide

theorem ppuInv_keptByUpdate : KeptByUpdate PpuInv where
  hostEvent s e h := by
    cases e with
    | loadRom image => exact h.of_ppu_eq (loadRom_ppu image s)
    | reset => exact reset_ppuInv.of_ppu_eq rfl
    | press btn => exact h.of_ppu_eq (pressButton_ppu btn s)
    | release btn => exact h.of_ppu_eq rfl
    | clearFrameDone => exact { h with }
  overlayEnd _ h := h.of_ppu_eq rfl
  cpuStep _ _ ht h := by
    obtain ⟨-, hppu, -⟩ := (cpuStep_acts ht).devices
    exact h.of_ppu_eq hppu
  timer cycles s h := h.of_ppu_eq (timerUpdate_ppu cycles s)
  ppu _ _ h := times_induct (fun _ hs => ppuTick_ppuInv hs) _ h
  count _ h := h.of_ppu_eq rfl

/-- Settles O59: only the PPU's ticks and `Reset()` change what the invariant speaks of, and each
tick keeps it, mode by mode. -/
theorem stepKeepsPpuInvariant : Obligations.StepKeepsPpuInvariant := fun _ _ hs ht =>
  ppuInv_keptByUpdate.step hs ht

end Sys2Proof.Machine
end

section
/-! PROOFS. The interrupt flags and the timer (R197 to R203, R246, R262): what a store to a device's
register changes, the divider and the counter in closed form, and the timer's invariant. -/

namespace Sys2Proof.Machine

/-! ## The devices' registers are distinct -/

theorem IoMap.Valid.deviceRegisters_nodup {m : IoMap} (h : m.Valid) : m.deviceRegisters.Nodup := by
  have hplain := h.plain_nodup
  simp only [IoMap.plain, IoMap.deviceRegisters, List.nodup_cons, List.mem_cons, not_or] at hplain ⊢
  tauto

/-- The timer's modulo register is not written by the devices. -/
theorem IoMap.Valid.tma_not_mem {m : IoMap} (h : m.Valid) : m.tma ∉ m.deviceRegisters := by
  have hplain := h.plain_nodup
  simp only [IoMap.plain, IoMap.deviceRegisters, List.nodup_cons, List.mem_cons, not_or] at hplain ⊢
  grind

/-- Nor is its control register. -/
theorem IoMap.Valid.tac_not_mem {m : IoMap} (h : m.Valid) : m.tac ∉ m.deviceRegisters := by
  have hplain := h.plain_nodup
  simp only [IoMap.plain, IoMap.deviceRegisters, List.nodup_cons, List.mem_cons, not_or] at hplain ⊢
  grind

theorem IoMap.Valid.tima_ne_iflag {m : IoMap} (h : m.Valid) : m.tima ≠ m.iflag := by
  have hnodup := h.deviceRegisters_nodup
  simp only [IoMap.deviceRegisters, List.nodup_cons, List.mem_cons, not_or] at hnodup
  tauto

theorem IoMap.iflag_mem_plain (m : IoMap) : m.iflag ∈ m.plain := by simp [IoMap.plain]

theorem IoMap.div_mem_plain (m : IoMap) : m.div ∈ m.plain := by simp [IoMap.plain]

theorem IoMap.tima_mem_plain (m : IoMap) : m.tima ∈ m.plain := by simp [IoMap.plain]

/-! ## Changes of the byte array -/

/-- Nothing but the byte array has changed, and every address outside `l` reads as before. -/
def ChangesBytes (l : List Word) (s t : State) : Prop :=
  (∀ x, x ∉ l → busRead x t = busRead x s) ∧ t = { s with mem := t.mem }

/-- The I/O addresses are those of `m`, which are legal. -/
def LegalIo (m : IoMap) (s : State) : Prop := s.io = m ∧ m.Valid

namespace ChangesBytes

variable {l l' : List Word} {m : IoMap} {s t u : State}

theorem refl (l : List Word) (s : State) : ChangesBytes l s s := ⟨fun _ _ => rfl, rfl⟩

theorem trans (h : ChangesBytes l s t) (h' : ChangesBytes l t u) : ChangesBytes l s u := by
  obtain ⟨hread, hframe⟩ := h
  obtain ⟨hread', hframe'⟩ := h'
  refine ⟨fun x hx => (hread' x hx).trans (hread x hx), hframe'.trans ?_⟩
  rw [hframe]

theorem mono (h : ChangesBytes l s t) (hl : l ⊆ l') : ChangesBytes l' s t := by
  obtain ⟨hread, hframe⟩ := h
  exact ⟨fun x hx => hread x fun hmem => hx (hl hmem), hframe⟩

theorem busRead_eq (h : ChangesBytes l s t) {x : Word} (hx : x ∉ l) : busRead x t = busRead x s :=
  h.1 x hx

theorem timer (h : ChangesBytes l s t) : t.timer = s.timer := by rw [h.2]

theorem ppu (h : ChangesBytes l s t) : t.ppu = s.ppu := by rw [h.2]

theorem legalIo (h : ChangesBytes l s t) (hio : LegalIo m s) : LegalIo m t := by
  rw [h.2]
  exact hio

end ChangesBytes

section

variable {m : IoMap} {s : State} (h : LegalIo m s)
include h

/-- A store to a plain register. -/
theorem busWrite_changesBytes {a : Word} (ha : a ∈ m.plain) (v : Byte) :
    ChangesBytes [a] s (busWrite a v s) := by
  obtain ⟨rfl, hio⟩ := h
  rw [busWrite_plain hio ha]
  exact ⟨fun x hx => busRead_memWrite a x v s (by simpa using hx), rfl⟩

theorem busRead_busWrite_plain {a : Word} (ha : a ∈ m.plain) (v : Byte) :
    busRead a (busWrite a v s) = v := by
  obtain ⟨rfl, hio⟩ := h
  obtain ⟨hr, hj, -⟩ := hio.plain ha
  exact busRead_busWrite_internal v s hr hj

/-! ## `SetInterruptFlag` (R246) -/

theorem setInterruptFlag_changesBytes (i : Nat) (value : Bool) :
    ChangesBytes [m.iflag] s (setInterruptFlag i value s) := by
  have hstore := busWrite_changesBytes h m.iflag_mem_plain
  obtain ⟨rfl, -⟩ := h
  exact hstore _

theorem busRead_iflag_setInterruptFlag (i : Nat) (value : Bool) :
    busRead m.iflag (setInterruptFlag i value s) =
      if value then setBit (busRead m.iflag s) i else clearBit (busRead m.iflag s) i := by
  have hvalue := busRead_busWrite_plain h m.iflag_mem_plain
  obtain ⟨rfl, -⟩ := h
  exact hvalue _

end

/-- Settles O8: the new `IF` is the old one with bit `i` set or cleared. -/
theorem setInterruptFlagOneBit : Obligations.SetInterruptFlagOneBit := by
  intro s i value hvalid _
  have hio : LegalIo s.io s := ⟨rfl, hvalid.io⟩
  obtain ⟨hread, hframe⟩ := setInterruptFlag_changesBytes hio i value
  refine ⟨fun j hj => ?_, fun x hx => hread x (by simpa using hx), hframe⟩
  rw [busRead_iflag_setInterruptFlag hio]
  cases value
  · exact bitOf_clearBit _ i hj
  · exact bitOf_setBit _ i hj

/-! ## Buttons (R262) -/

theorem Held.has_set (h : Held) (btn other : Button) (v : Bool) :
    (h.set btn v).has other = if other = btn then v else h.has other := by
  cases btn <;> cases other <;> rfl

theorem groupSelected_eq (stored : Byte) (btn : Button) :
    groupSelected stored btn = !bitOf stored (if btn.directional then 4 else 5) := by
  unfold groupSelected
  split <;> rfl

theorem pressButton_of_held {btn : Button} {s : State} (h : s.held.has btn = true) :
    pressButton btn s = s := by simp only [pressButton, h, if_true]

theorem pressButton_of_not_held {btn : Button} {s : State} (h : s.held.has btn = false) :
    pressButton btn s =
      if bitOf (Store.read s.mem s.io.joyp.toNat) (if btn.directional then 4 else 5) = false then
        setInterruptFlag 4 true { s with held := s.held.set btn true }
      else { s with held := s.held.set btn true } := by
  simp only [pressButton, h, groupSelected_eq, Bool.not_eq_true', Bool.false_eq_true, if_false]

/-- The request of the joypad interrupt leaves `held` alone. -/
theorem pressButton_held {btn : Button} {s : State} (h : s.held.has btn = false) :
    (pressButton btn s).held = s.held.set btn true := by
  rw [pressButton_of_not_held h, apply_ite State.held, setInterruptFlag, busWrite_held, ite_self]

/-- Settles O55: a press acts only on a button that is not held. -/
theorem buttonPressAndRelease : Obligations.ButtonPressAndRelease := by
  intro btn s
  refine ⟨pressButton_of_held, pressButton_of_not_held, fun other => ?_, fun other => ?_, rfl⟩
  · cases hheld : s.held.has btn with
    | true =>
      rw [pressButton_of_held hheld]
      by_cases ho : other = btn <;> simp [ho, hheld]
    | false =>
      rw [pressButton_held hheld, Held.has_set]
      by_cases ho : other = btn <;> simp [ho]
  · show (s.held.set btn false).has other = _
    rw [Held.has_set]
    by_cases ho : other = btn <;> simp [ho]

/-! ## What the devices change (R65, R226) -/

/-- With legal I/O addresses the devices change their own state and the byte array. -/
theorem DevicesWrite.frame {s t : State} (h : DevicesWrite s t) (hio : s.io.Valid) :
    t = { s with timer := t.timer, ppu := t.ppu, mem := t.mem } := by
  induction h with
  | refl => rfl
  | setTimer _ _ ih =>
    conv_lhs => rw [ih]
  | setPpu _ _ ih =>
    conv_lhs => rw [ih]
    rfl
  | @store t a ha v h ih =>
    have hsame : t.io = s.io := congrArg (·.params.io) h.launch
    rw [busWrite_plain (hsame ▸ hio) (t.io.deviceRegisters_subset_plain ha) v]
    conv_lhs => rw [ih]

/-- Settles O36: the devices store to their registers only, all plain bytes of the array. -/
theorem devicesWriteTheirRegistersOnly : Obligations.DevicesWriteTheirRegistersOnly := by
  intro s c hvalid
  have hwrites := (timerUpdate_writes c s).trans (ppuUpdate_writes c _)
  have hframe := hwrites.frame hvalid.io
  exact ⟨fun x hx => hwrites.busRead_eq hvalid.io hx, (congrArg State.cpu hframe :),
    (congrArg State.cart hframe :), (congrArg State.vram hframe :), (congrArg State.oam hframe :),
    (congrArg State.held hframe :), (congrArg State.serialOut hframe :),
    (congrArg State.overlayActive hframe :), (congrArg State.launch hframe :)⟩

/-! ## The divider (R198) -/

theorem times_divIncrement {m : IoMap} {s : State} (h : LegalIo m s) (n : Nat) :
    ChangesBytes [m.div] s (times n divIncrement s) ∧
      busRead m.div (times n divIncrement s) = busRead m.div s + BitVec.ofNat 8 n := by
  induction n with
  | zero => exact ⟨.refl _ s, by simp⟩
  | succ n ih =>
    obtain ⟨hchanges, hdiv⟩ := ih
    obtain ⟨rfl, hio⟩ := hchanges.legalIo h
    rw [times_succ']
    generalize times n divIncrement s = t at hchanges hdiv hio ⊢
    have hstore := busWrite_changesBytes ⟨rfl, hio⟩ t.io.div_mem_plain (busRead t.io.div t + 1#8)
    refine ⟨hchanges.trans hstore, ?_⟩
    rw [divIncrement, busRead_busWrite_plain ⟨rfl, hio⟩ t.io.div_mem_plain, hdiv,
      BitVec.ofNat_add, BitVec.add_assoc]

/-- The state at the start of the increments: the remainder is in the accumulator. -/
def State.withDivAcc (s : State) (acc : Nat) : State :=
  { s with timer := { s.timer with divAcc := acc } }

theorem divUpdate_eq (ticks : Nat) (s : State) :
    divUpdate ticks s = times ((s.timer.divAcc + ticks) / s.params.divPeriod) divIncrement
      (s.withDivAcc ((s.timer.divAcc + ticks) % s.params.divPeriod)) := rfl

/-- Settles O45: one increment for each whole period. -/
theorem dividerCounts : Obligations.DividerCounts := by
  refine ⟨rfl, fun ticks s hvalid => ?_⟩
  simp only [divUpdate_eq]
  obtain ⟨hchanges, hdiv⟩ := times_divIncrement (m := s.io)
    (s := s.withDivAcc ((s.timer.divAcc + ticks) % s.params.divPeriod)) ⟨rfl, hvalid.io⟩
    ((s.timer.divAcc + ticks) / s.params.divPeriod)
  have htimer := hchanges.timer
  obtain ⟨hread, hframe⟩ := hchanges
  refine ⟨hdiv, htimer, fun x hx => hread x (by simpa using hx), ?_⟩
  rw [htimer]
  exact hframe

/-! ## The counter (R199, R200) -/

/-- One increment: TIMA goes up, or at 0xFF reloads and requests interrupt 2. -/
theorem timaIncrement_reads {m : IoMap} {s : State} (h : LegalIo m s) :
    ChangesBytes [m.tima, m.iflag] s (timaIncrement s) ∧
      busRead m.tima (timaIncrement s) =
        (if busRead m.tima s = 0xFF#8 then busRead m.tma s else busRead m.tima s + 1#8) ∧
      busRead m.iflag (timaIncrement s) =
        (if busRead m.tima s = 0xFF#8 then busRead m.iflag s ||| 0x04#8
          else busRead m.iflag s) := by
  have hne := h.2.tima_ne_iflag
  have hstore (v : Byte) := busWrite_changesBytes h m.tima_mem_plain v
  have hvalue (v : Byte) := busRead_busWrite_plain h m.tima_mem_plain v
  have hflag (v : Byte) : busRead m.iflag (busWrite m.tima v s) = busRead m.iflag s :=
    (hstore v).busRead_eq (by simpa using hne.symm)
  obtain rfl : s.io = m := h.1
  simp only [timaIncrement]
  split
  next =>
    have hreload := hstore (busRead s.io.tma s)
    have hset := setInterruptFlag_changesBytes (hreload.legalIo h) 2 true
    refine ⟨(hreload.mono (by simp)).trans (hset.mono (by simp)),
      (hset.busRead_eq (by simpa using hne)).trans (hvalue _), ?_⟩
    rw [busRead_iflag_setInterruptFlag (hreload.legalIo h), hflag]
    rfl
  next => exact ⟨(hstore _).mono (by simp), hvalue _, hflag _⟩

/-- The increments of one update, by the recursion of `timaAfter`. -/
theorem times_timaIncrement {m : IoMap} (n : Nat) {s : State} (h : LegalIo m s) :
    ChangesBytes [m.tima, m.iflag] s (times n timaIncrement s) ∧
      busRead m.tima (times n timaIncrement s) =
        (timaAfter (busRead m.tma s) n (busRead m.tima s)).1 ∧
      busRead m.iflag (times n timaIncrement s) =
        (if (timaAfter (busRead m.tma s) n (busRead m.tima s)).2 = true then
          busRead m.iflag s ||| 0x04#8 else busRead m.iflag s) := by
  induction n generalizing s with
  | zero => exact ⟨.refl _ s, rfl, rfl⟩
  | succ n ih =>
    obtain ⟨hchanges, htima, hiflag⟩ := timaIncrement_reads h
    obtain ⟨hchanges', htima', hiflag'⟩ := ih (hchanges.legalIo h)
    have htma : busRead m.tma (timaIncrement s) = busRead m.tma s :=
      (hchanges.mono (by simp [IoMap.deviceRegisters])).busRead_eq h.2.tma_not_mem
    rw [htma, htima] at htima' hiflag'
    rw [hiflag] at hiflag'
    refine ⟨hchanges.trans hchanges', ?_⟩
    rw [times_succ, htima', hiflag', timaAfter]
    by_cases hv : busRead m.tima s = 0xFF#8
    · simp [hv, BitVec.or_assoc]
    · simp [hv]

/-- `TIMA_PERIOD` by the number in TAC[1:0] (R200). -/
theorem timaPeriodOf_eq (p : TimaPeriods) (tac : Byte) :
    timaPeriodOf p tac = [p.code0, p.code1, p.code2, p.code3].getD (tac.toNat % 4) 0 := by
  have hcode : tac.extractLsb' 0 2 = BitVec.ofNat 2 (tac.toNat % 4) := by
    apply BitVec.eq_of_toNat_eq
    simp
  have hlt : tac.toNat % 4 < 4 := Nat.mod_lt _ (by decide)
  rw [timaPeriodOf, hcode]
  interval_cases tac.toNat % 4 <;> rfl

/-- The state at the start of the increments: the remainder is in the accumulator. -/
def State.withTimaAcc (s : State) (acc : Nat) : State :=
  { s with timer := { s.timer with timaAcc := acc } }

theorem timaUpdate_of_disabled {s : State} (h : bitOf (busRead s.io.tac s) 2 = false)
    (ticks : Nat) : timaUpdate ticks s = s := by
  simp only [timaUpdate, h, Bool.false_eq_true, if_false]

theorem timaUpdate_of_enabled {s : State} (h : bitOf (busRead s.io.tac s) 2 = true) (ticks : Nat) :
    timaUpdate ticks s =
      times ((s.timer.timaAcc + ticks) / timaPeriodOf s.params.timaPeriods (busRead s.io.tac s))
        timaIncrement (s.withTimaAcc ((s.timer.timaAcc + ticks) %
          timaPeriodOf s.params.timaPeriods (busRead s.io.tac s))) := by
  simp only [timaUpdate, h, if_true, State.withTimaAcc]

/-- Settles O46: one increment for each whole period. -/
theorem counterCounts : Obligations.CounterCounts := by
  refine ⟨rfl, fun ticks s hvalid => ⟨fun hoff => timaUpdate_of_disabled hoff ticks, fun hon => ?_⟩⟩
  simp only [timaUpdate_of_enabled hon, ← timaPeriodOf_eq]
  generalize timaPeriodOf s.params.timaPeriods (busRead s.io.tac s) = period
  obtain ⟨hchanges, htima, hiflag⟩ := times_timaIncrement (m := s.io)
    ((s.timer.timaAcc + ticks) / period)
    (s := s.withTimaAcc ((s.timer.timaAcc + ticks) % period)) ⟨rfl, hvalid.io⟩
  have htimer := hchanges.timer
  obtain ⟨hread, hframe⟩ := hchanges
  refine ⟨htima, htimer, hiflag, fun x hx hx' => hread x ?_, ?_⟩
  · simp only [List.mem_cons, List.not_mem_nil, or_false, not_or]
    exact ⟨hx, hx'⟩
  · rw [htimer]
    exact hframe

/-! ## The timer's invariant (R203) -/

theorem times_timer {f : State → State} (hf : ∀ s, (f s).timer = s.timer) (n : Nat) (s : State) :
    (times n f s).timer = s.timer :=
  times_rel (R := fun s t => t.timer = s.timer) (fun _ => rfl) (fun _ _ _ h h' => h'.trans h) hf n s

theorem divUpdate_timer (ticks : Nat) (s : State) :
    (divUpdate ticks s).timer =
      { s.timer with divAcc := (s.timer.divAcc + ticks) % s.params.divPeriod } :=
  times_timer (fun _ => by simp [divIncrement]) _ _

theorem timaIncrement_timer (s : State) : (timaIncrement s).timer = s.timer := by
  simp only [timaIncrement]
  split <;> simp

theorem timaUpdate_timer_of_enabled {s : State} (h : bitOf (busRead s.io.tac s) 2 = true)
    (ticks : Nat) :
    (timaUpdate ticks s).timer =
      { s.timer with
        timaAcc := (s.timer.timaAcc + ticks) %
          timaPeriodOf s.params.timaPeriods (busRead s.io.tac s) } :=
  timaUpdate_of_enabled h ticks ▸ times_timer timaIncrement_timer _ _

theorem timaUpdate_divAcc (ticks : Nat) (s : State) :
    (timaUpdate ticks s).timer.divAcc = s.timer.divAcc := by
  cases hon : bitOf (busRead s.io.tac s) 2 with
  | false => rw [timaUpdate_of_disabled hon]
  | true => rw [timaUpdate_timer_of_enabled hon]

/-- The invariant speaks of the accumulators, the parameters and `TAC`. -/
theorem TimerInv.of_eq {s t : State} (h : TimerInv s) (htimer : t.timer = s.timer)
    (hlaunch : t.launch = s.launch) (htac : busRead s.io.tac t = busRead s.io.tac s) :
    TimerInv t := by
  obtain ⟨hdiv, htima⟩ := h
  simp only [State.params_eq, State.io_eq] at hdiv htima htac
  refine ⟨?_, ?_⟩ <;> simp only [State.params_eq, State.io_eq, hlaunch, htimer, htac]
  · exact hdiv
  · exact htima

/-- The counter's update leaves a remainder where `TAC`, which it does not write, enables it. -/
theorem timaUpdate_timerInv {s : State} (h : s.params.Valid)
    (hdiv : s.timer.divAcc < s.params.divPeriod) (ticks : Nat) : TimerInv (timaUpdate ticks s) := by
  have hwrites := timaUpdate_writes ticks s
  have htac := hwrites.busRead_eq h.io h.io.tac_not_mem
  have hlaunch := hwrites.launch
  simp only [State.params_eq] at hdiv htac
  refine ⟨?_, ?_⟩ <;> simp only [State.params_eq, State.io_eq, hlaunch, htac]
  · rwa [timaUpdate_divAcc]
  · intro hon
    rw [timaUpdate_timer_of_enabled hon]
    exact Nat.mod_lt _ (timaPeriodOf_pos h _)

/-- Both accumulators are remainders after the timer's update. -/
theorem timerUpdate_timerInv {s : State} (h : s.params.Valid) (cycles : Nat) :
    TimerInv (timerUpdate cycles s) := by
  have hlaunch := (divUpdate_writes (s.params.ticksPerCycle * cycles) s).launch
  have hparams : (divUpdate (s.params.ticksPerCycle * cycles) s).params = s.params :=
    congrArg Launch.params hlaunch
  refine timaUpdate_timerInv (by rwa [hparams]) ?_ _
  rw [divUpdate_timer, hparams]
  exact Nat.mod_lt _ h.divPeriod

/-! ## The PPU leaves the timer alone -/

@[simp] theorem setMode_timer (m : PpuMode) (s : State) : (setMode m s).timer = s.timer := by
  simp only [setMode]
  split <;> split <;> simp

theorem endLine_timer (s : State) : (endLine s).timer = s.timer := by
  simp only [endLine]
  split <;> simp

theorem vblankLine_timer (s : State) : (vblankLine s).timer = s.timer := by
  simp only [vblankLine]
  split <;> simp

theorem mode3Tick_timer (s : State) : (mode3Tick s).timer = s.timer := by
  rw [mode3Tick_changesPpuOnly s, State.withPpu_timer]

theorem ppuTick_timer (s : State) : (ppuTick s).timer = s.timer := by
  simp only [ppuTick]
  split
  case h_1 =>
    split
    · exact setMode_timer _ _
    · rfl
  case h_2 =>
    split
    · exact (setMode_timer _ _).trans (mode3Tick_timer _)
    · exact mode3Tick_timer _
  case h_3 =>
    split
    · exact endLine_timer _
    · rfl
  case h_4 =>
    split
    · exact vblankLine_timer _
    · rfl

theorem ppuUpdate_timer (cycles : Nat) (s : State) : (ppuUpdate cycles s).timer = s.timer :=
  times_timer ppuTick_timer _ s

theorem advanceDevices_timerInv {s : State} (h : s.params.Valid) : TimerInv (advanceDevices s) := by
  have hlaunch := (timerUpdate_writes s.cpu.spent s).launch
  have hvalid : (timerUpdate s.cpu.spent s).params.Valid := by
    rw [State.params_eq, hlaunch]
    exact h
  have hppu := ppuUpdate_writes s.cpu.spent (timerUpdate s.cpu.spent s)
  have hinv := (timerUpdate_timerInv h s.cpu.spent).of_eq (ppuUpdate_timer _ _) hppu.launch
    (hppu.busRead_eq hvalid.io hvalid.io.tac_not_mem)
  exact ⟨hinv.divAcc, hinv.timaAcc⟩

/-! ## The parameters are never changed (R8) -/

@[simp] theorem applyHostEvent_launch (s : State) (e : HostEvent) :
    (applyHostEvent s e).launch = s.launch := by
  cases e with
  | loadRom image =>
    simp only [applyHostEvent, loadRom]
    split <;> rfl
  | press btn =>
    obtain ⟨held, hacts⟩ := pressButton_acts btn s
    exact hacts.cpu_launch.2
  | reset | release _ | clearFrameDone => rfl

theorem hostActions_launch (s : State) : (hostActions s).launch = s.launch :=
  List.foldlRecOn (motive := fun t : State => t.launch = s.launch) _ _ rfl
    fun _ ht e _ => (applyHostEvent_launch _ e).trans ht

/-- A step is the CPU step, after the host and the overlay check, and then the devices (R255). -/
theorem exists_of_step {s t : State} (h : step s = .next t) :
    ∃ u, cpuStep (overlayCheck (hostActions s)) = .next u ∧ t = advanceDevices u := by
  simp only [step, machineUpdate] at h
  split at h
  next u hu =>
    cases h
    exact ⟨u, hu, rfl⟩
  all_goals cases h

/-- Settles O47: whatever came before, the timer's update leaves remainders, and nothing after it in
the step changes them or `TAC`. -/
theorem timerInvariantAfterEveryStep : Obligations.TimerInvariantAfterEveryStep := by
  intro s t hvalid ht
  obtain ⟨u, hu, rfl⟩ := exists_of_step ht
  have hlaunch : u.launch = s.launch := by
    rw [(cpuStep_acts hu).launch, overlayCheck_launch, hostActions_launch]
  exact advanceDevices_timerInv (by rw [State.params_eq, hlaunch]; exact hvalid)

end Sys2Proof.Machine
end

section
/-! PROOFS. The PPU's modes and lines (R206, R209, R211, R212): STAT and `IF` at a mode change, LY
at the end of a line, and the length of a V-blank line. -/

namespace Sys2Proof.Machine

/-! ## The STAT byte (R209) -/

theorem bitOf_code_high (m : PpuMode) : ∀ j, 2 ≤ j → j < 8 → bitOf m.code j = false := by
  cases m <;> decide

/-- Bits 7:3 of STAT are kept. -/
theorem bitOf_statByte_high (m : PpuMode) (st ly lyc : Byte) {j : Nat} (h3 : 3 ≤ j) (h8 : j < 8) :
    bitOf (statByte m st ly lyc) j = bitOf st j := by
  have hmask : ∀ k, 3 ≤ k → k < 8 →
      bitOf 0xF8#8 k = true ∧ bitOf 0x04#8 k = false ∧ bitOf 0x00#8 k = false := by decide
  obtain ⟨hkeep, hfour, hzero⟩ := hmask j h3 h8
  rw [statByte, bitOf_or, bitOf_or, bitOf_and, apply_ite (bitOf · j), hkeep, hfour, hzero,
    bitOf_code_high m j (by omega) h8]
  simp

/-- Bit 2 is the coincidence. -/
theorem bitOf_statByte_coincidence (m : PpuMode) (st ly lyc : Byte) :
    bitOf (statByte m st ly lyc) 2 = decide (ly = lyc) := by
  have hmask : bitOf 0xF8#8 2 = false ∧ bitOf 0x04#8 2 = true ∧ bitOf 0x00#8 2 = false := by decide
  obtain ⟨hkeep, hfour, hzero⟩ := hmask
  rw [statByte, bitOf_or, bitOf_or, bitOf_and, apply_ite (bitOf · 2), hkeep, hfour, hzero,
    bitOf_code_high m 2 (by decide) (by decide)]
  simp

/-- Bits 1:0 are the mode. -/
theorem statByte_mod_four (m : PpuMode) (st ly lyc : Byte) :
    (statByte m st ly lyc).toNat % 4 = m.code.toNat := by
  have hcode : m.code.toNat % 2 ^ 2 = m.code.toNat := by cases m <;> rfl
  have hfour : (if ly = lyc then 0x04#8 else 0x00#8).toNat % 2 ^ 2 = 0 := by split <;> rfl
  have hkeep : (0xF8#8).toNat % 2 ^ 2 = 0 := rfl
  show _ % 2 ^ 2 = _
  rw [statByte, BitVec.toNat_or, BitVec.toNat_or, BitVec.toNat_and, Nat.or_mod_two_pow,
    Nat.or_mod_two_pow, Nat.and_mod_two_pow, hcode, hfour, hkeep]
  simp

theorem statRequest_iff (m : PpuMode) (st : Byte) (co : Bool) :
    statRequest m st co = true ↔
      bitOf st 3 = true ∧ m = .hblank ∨ bitOf st 4 = true ∧ m = .vblank ∨
        bitOf st 5 = true ∧ m = .scan ∨ bitOf st 6 = true ∧ co = true := by
  simp [statRequest, or_assoc]

/-! ## A mode change (R209) -/

theorem IoMap.stat_mem_plain (m : IoMap) : m.stat ∈ m.plain := by simp [IoMap.plain]

theorem IoMap.ly_mem_plain (m : IoMap) : m.ly ∈ m.plain := by simp [IoMap.plain]

/-- The registers that the PPU writes are distinct. -/
theorem IoMap.Valid.ppu_ne {m : IoMap} (h : m.Valid) :
    m.stat ≠ m.iflag ∧ m.ly ≠ m.iflag ∧ m.ly ≠ m.stat := by
  have hnodup := h.deviceRegisters_nodup
  simp only [IoMap.deviceRegisters, List.nodup_cons, List.mem_cons, not_or] at hnodup
  grind

/-- A request of interrupt `i` under a condition sets bit `i` of `IF` under that condition. -/
theorem requestIf_reads {m : IoMap} {s : State} (h : LegalIo m s) (p : Prop) [Decidable p]
    (i : Nat) :
    ChangesBytes [m.iflag] s (if p then setInterruptFlag i true s else s) ∧
      ∀ j, j < 8 →
        bitOf (busRead m.iflag (if p then setInterruptFlag i true s else s)) j =
          (bitOf (busRead m.iflag s) j || decide (j = i ∧ p)) := by
  by_cases hp : p
  · simp only [hp, if_true, and_true]
    refine ⟨setInterruptFlag_changesBytes h i true, fun j hj => ?_⟩
    rw [busRead_iflag_setInterruptFlag h]
    refine (bitOf_setBit _ i hj).trans ?_
    by_cases hji : j = i <;> simp [hji]
  · simp only [hp, if_false, and_false, decide_false, Bool.or_false]
    exact ⟨.refl _ s, fun _ _ => trivial⟩

/-- `SetMode` stores STAT, and sets bits 0 and 1 of `IF` where V-blank and a STAT source ask. -/
theorem setMode_reads {m : IoMap} {s : State} (h : LegalIo m s) (mode : PpuMode) :
    ChangesBytes [m.stat, m.iflag] (s.withPpu { s.ppu with mode := mode }) (setMode mode s) ∧
      busRead m.stat (setMode mode s) =
        statByte mode (busRead m.stat s) (busRead m.ly s) (busRead m.lyc s) ∧
      ∀ j, j < 8 →
        bitOf (busRead m.iflag (setMode mode s)) j =
          (bitOf (busRead m.iflag s) j ||
            decide (j = 1 ∧ statRequest mode (busRead m.stat (setMode mode s))
              (busRead m.ly s == busRead m.lyc s) = true) ||
            decide (j = 0 ∧ mode = .vblank)) := by
  obtain ⟨hne, -, -⟩ := h.2.ppu_ne
  obtain rfl : s.io = m := h.1
  have hio : LegalIo s.io (s.withPpu { s.ppu with mode := mode }) := h
  simp only [setMode]
  generalize statByte mode (busRead s.io.stat s) (busRead s.io.ly s) (busRead s.io.lyc s) = st
  have hstore := busWrite_changesBytes hio s.io.stat_mem_plain st
  have hvalue := busRead_busWrite_plain hio s.io.stat_mem_plain st
  generalize busWrite s.io.stat st (s.withPpu { s.ppu with mode := mode }) = u at hstore hvalue ⊢
  have hio1 := hstore.legalIo hio
  obtain ⟨hstat, hbits⟩ := requestIf_reads hio1
    (statRequest mode st (busRead s.io.ly s == busRead s.io.lyc s) = true) 1
  have hio2 := hstat.legalIo hio1
  obtain ⟨hvblank, hbits'⟩ := requestIf_reads hio2 (mode = .vblank) 0
  have hkept := hstat.trans hvblank
  have hread := (hkept.busRead_eq (by simpa using hne)).trans hvalue
  refine ⟨(hstore.mono (by simp)).trans (hkept.mono (by simp)), hread, fun j hj => ?_⟩
  rw [hread, hbits' j hj, hbits j hj, hstore.busRead_eq (by simpa using hne.symm)]
  rfl

/-- Settles O48: the byte stored, bit by bit, and the two requests. -/
theorem modeChangeSetsStat : Obligations.ModeChangeSetsStat := by
  intro mode s hvalid
  obtain ⟨hchanges, hstat, hiflag⟩ := setMode_reads ⟨rfl, hvalid.io⟩ mode
  obtain ⟨hread, hframe⟩ := hchanges
  refine ⟨setMode_ppu mode s, fun j h3 h8 => ?_, ?_, ?_, ?_, ?_, fun j h2 h8 => ?_,
    fun x hs hi => hread x ?_, ?_⟩
  · rw [hstat, bitOf_statByte_high mode _ _ _ h3 h8]
  · rw [hstat, bitOf_statByte_coincidence, decide_eq_true_iff]
  · rw [hstat, statByte_mod_four]
    cases mode <;> rfl
  · rw [hiflag 0 (by decide)]
    simp
  · rw [hiflag 1 (by decide), ← beq_iff_eq (a := busRead s.io.ly s), ← statRequest_iff]
    simp
  · rw [hiflag j h8]
    simp [show j ≠ 0 by omega, show j ≠ 1 by omega]
  · simp only [List.mem_cons, List.not_mem_nil, or_false, not_or]
    exact ⟨hs, hi⟩
  · rw [setMode_ppu]
    exact hframe

/-! ## The end of a line (R211, R212) -/

/-- The end of a visible line stores LY + 1, then enters V-blank or the next line's mode 2. -/
theorem endLine_eq_setMode {m : IoMap} {s : State} (h : LegalIo m s) :
    ∃ u, LegalIo m u ∧ busRead m.ly u = busRead m.ly s + 1#8 ∧
      endLine s = setMode (if busRead m.ly s = 143#8 then .vblank else .scan) u := by
  obtain rfl : s.io = m := h.1
  have hlast : busRead s.io.ly s = 143#8 ↔ busRead s.io.ly s + 1#8 = 144#8 :=
    (BitVec.add_left_inj 1#8).symm
  simp only [endLine, hlast]
  generalize hp : { s.ppu with
    dot := 0
    windowLine := if s.ppu.windowEngaged then s.ppu.windowLine + 1#8 else s.ppu.windowLine } = p
  have hio : LegalIo s.io (s.withPpu p) := h
  have hstore := busWrite_changesBytes hio s.io.ly_mem_plain (busRead s.io.ly s + 1#8)
  have hvalue := busRead_busWrite_plain hio s.io.ly_mem_plain (busRead s.io.ly s + 1#8)
  have hio' := hstore.legalIo hio
  split
  · refine ⟨_, ?_, ?_, rfl⟩
    · exact hio'
    · exact hvalue
  · exact ⟨_, hio', hvalue, rfl⟩

theorem busRead_ly_setMode {m : IoMap} {s : State} (h : LegalIo m s) (mode : PpuMode) :
    busRead m.ly (setMode mode s) = busRead m.ly s := by
  obtain ⟨-, hiflag, hstat⟩ := h.2.ppu_ne
  obtain ⟨hchanges, -⟩ := setMode_reads h mode
  exact hchanges.busRead_eq (by simp [hiflag, hstat])

theorem busRead_ly_endLine {m : IoMap} {s : State} (h : LegalIo m s) :
    busRead m.ly (endLine s) = busRead m.ly s + 1#8 := by
  obtain ⟨u, hio, hly, hend⟩ := endLine_eq_setMode h
  rw [hend, busRead_ly_setMode hio, hly]

/-- V-blank is requested where it is entered. -/
theorem bitOf_iflag_endLine {m : IoMap} {s : State} (h : LegalIo m s)
    (hly : busRead m.ly s = 143#8) : bitOf (busRead m.iflag (endLine s)) 0 = true := by
  obtain ⟨u, hio, -, hend⟩ := endLine_eq_setMode h
  obtain ⟨-, -, hiflag⟩ := setMode_reads hio .vblank
  rw [hend, if_pos hly, hiflag 0 (by decide)]
  simp

/-- The end of a V-blank line but the last stores LY + 1 and no other register. -/
theorem vblankLine_reads_of_ne {m : IoMap} {s : State} (h : LegalIo m s)
    (hly : busRead m.ly s ≠ 153#8) :
    ChangesBytes [m.ly] (s.withPpu { s.ppu with dot := 0 }) (vblankLine s) ∧
      busRead m.ly (vblankLine s) = busRead m.ly s + 1#8 := by
  obtain rfl : s.io = m := h.1
  have hio : LegalIo s.io (s.withPpu { s.ppu with dot := 0 }) := h
  rw [vblankLine_of_ne hly]
  exact ⟨busWrite_changesBytes hio s.io.ly_mem_plain _,
    busRead_busWrite_plain hio s.io.ly_mem_plain _⟩

/-- The end of the last V-blank line stores LY 0. -/
theorem busRead_ly_vblankLine_of_last {m : IoMap} {s : State} (h : LegalIo m s)
    (hly : busRead m.ly s = 153#8) : busRead m.ly (vblankLine s) = 0#8 := by
  obtain rfl : s.io = m := h.1
  have hio : LegalIo s.io (s.withPpu { s.ppu with dot := 0 }) := h
  have hstore := busWrite_changesBytes hio s.io.ly_mem_plain 0#8
  have hwrap : busRead s.io.ly s + 1#8 = 154#8 := (BitVec.add_left_inj 1#8).2 hly
  simp only [vblankLine, if_pos hwrap]
  refine (busRead_ly_setMode (m := s.io) ?_ .scan).trans ?_
  · exact hstore.legalIo hio
  · exact busRead_busWrite_plain hio s.io.ly_mem_plain 0#8

/-- Settles O49: each ending in closed form, by LY. -/
theorem lineEnds : Obligations.LineEnds := by
  intro s hvalid
  have hio : LegalIo s.io s := ⟨rfl, hvalid.io⟩
  obtain ⟨-, hiflag, hstat⟩ := hvalid.io.ppu_ne
  refine ⟨?_, busRead_ly_endLine hio, fun hly => ?_, fun hly => ?_, ?_, fun hly => ?_,
    fun hly => ?_⟩
  · by_cases hly : busRead s.io.ly s = 143#8
    · rw [endLine_ppu_of_last hly]
    · rw [endLine_ppu_of_ne hly]
  · rw [endLine_ppu_of_last hly]
    exact ⟨rfl, rfl, rfl, rfl, bitOf_iflag_endLine hio hly⟩
  · rw [endLine_ppu_of_ne hly]
    exact ⟨rfl, rfl, rfl, rfl⟩
  · by_cases hly : busRead s.io.ly s = 153#8
    · rw [vblankLine_ppu_of_last hly]
    · rw [(vblankLine_reads_of_ne hio hly).1.ppu, State.withPpu_ppu]
  · rw [vblankLine_ppu_of_last hly]
    exact ⟨busRead_ly_vblankLine_of_last hio hly, rfl, rfl⟩
  · obtain ⟨hchanges, hread⟩ := vblankLine_reads_of_ne hio hly
    rw [hchanges.ppu]
    exact ⟨hread, rfl, rfl, hchanges.busRead_eq (by simpa using hstat.symm),
      hchanges.busRead_eq (by simpa using hiflag.symm)⟩

/-! ## The length of a V-blank line (R206, R212) -/

/-- Inside a V-blank line a tick only counts. -/
theorem times_ppuTick_vblank {s : State} (hmode : s.ppu.mode = .vblank) (hdot : s.ppu.dot = 0)
    (n : Nat) (hn : n < 456) : times n ppuTick s = s.withPpu { s.ppu with dot := n } := by
  induction n with
  | zero => rw [times_zero, ← hdot, State.withPpu_self]
  | succ n ih =>
    rw [times_succ', ih (by omega)]
    exact (ppuTick_vblank (s := s.withPpu { s.ppu with dot := n }) hmode).trans
      (if_neg (Nat.not_le.2 hn))

/-- The 456th tick ends the line. -/
theorem times_ppuTick_vblankLine {s : State} (hmode : s.ppu.mode = .vblank) (hdot : s.ppu.dot = 0) :
    times 456 ppuTick s = vblankLine (s.withPpu { s.ppu with dot := 456 }) := by
  rw [times_succ', times_ppuTick_vblank hmode hdot 455 (by decide)]
  exact (ppuTick_vblank (s := s.withPpu { s.ppu with dot := 455 }) hmode).trans
    (if_pos (Nat.le_refl 456))

/-- Settles O50: 455 ticks that count and one that ends the line. -/
theorem vblankLineLasts456Ticks : Obligations.VblankLineLasts456Ticks := by
  intro s hvalid hmode hdot
  have hio : LegalIo s.io (s.withPpu { s.ppu with dot := 456 }) := ⟨rfl, hvalid.io⟩
  refine ⟨fun n hn => ?_, fun hly => ?_, fun hly => ?_⟩
  · rw [times_ppuTick_vblank hmode hdot n hn]
    exact ⟨rfl, rfl⟩
  · obtain ⟨hchanges, hread⟩ := vblankLine_reads_of_ne hio hly
    rw [times_ppuTick_vblankLine hmode hdot, hchanges.ppu]
    exact ⟨by simp [← hdot], hread⟩
  · have hppu := vblankLine_ppu_of_last (s := s.withPpu { s.ppu with dot := 456 }) hly
    rw [times_ppuTick_vblankLine hmode hdot, hppu]
    exact ⟨by simp [← hdot], busRead_ly_vblankLine_of_last hio hly⟩

end Sys2Proof.Machine
end

section
/-! PROOFS. The cartridge (R229 to R239): the four registers of the rotating-bank controller, the
accesses of both kinds on naturals, and what `LoadROM` inserts. -/

namespace Sys2Proof.Machine

/-! ## Low bits on numbers -/

theorem toNat_and_0x0F (v : Byte) : (v &&& 0x0F#8).toNat = v.toNat % 16 :=
  Nat.and_two_pow_sub_one_eq_mod v.toNat 4

theorem toNat_and_0x3FFF (a : Word) : (a &&& 0x3FFF#16).toNat = a.toNat % 16384 :=
  Nat.and_two_pow_sub_one_eq_mod a.toNat 14

theorem low_eq_0x0A (v : Byte) : (v &&& 0x0F#8 == 0x0A#8) = decide (v.toNat % 16 = 10) := by
  rw [beq_eq_decide, ← toNat_and_0x0F, decide_eq_decide]
  exact BitVec.toNat_inj.symm

theorem extractLsb'_zero_eq_ofNat (v : Byte) (n : Nat) :
    v.extractLsb' 0 n = BitVec.ofNat n v.toNat := by
  apply BitVec.eq_of_toNat_eq
  simp

/-- The bank register takes the low five bits, 0 becoming 1. -/
theorem bank1_eq (v : Byte) :
    (if v.extractLsb' 0 5 = 0#5 then 1#5 else v.extractLsb' 0 5) =
      BitVec.ofNat 5 (if v.toNat % 32 = 0 then 1 else v.toNat % 32) := by
  have hnat : (v.extractLsb' 0 5).toNat = v.toNat % 32 := by simp
  have hzero : v.extractLsb' 0 5 = 0#5 ↔ v.toNat % 32 = 0 := by
    rw [← hnat]
    exact BitVec.toNat_inj.symm
  simp only [hzero]
  split
  · rfl
  · rw [← hnat, BitVec.ofNat_toNat, BitVec.setWidth_eq]

/-! ## The controller's registers (R235) -/

section

variable {c : Cart} (h : c.kind = .mbc1) {a : Word} (v : Byte)
include h

theorem Cart.writeRom_ramEn (ha : a.toNat ≤ 0x1FFF) :
    c.writeRom a v = { c with ramEn := decide (v.toNat % 16 = 10) } := by
  have hle : a ≤ 0x1FFF#16 := ha
  simp only [Cart.writeRom, h, if_pos hle, low_eq_0x0A]

theorem Cart.writeRom_bank1_eq (hlo : 0x2000 ≤ a.toNat) (hhi : a.toNat ≤ 0x3FFF) :
    c.writeRom a v =
      { c with bank1 := BitVec.ofNat 5 (if v.toNat % 32 = 0 then 1 else v.toNat % 32) } := by
  have h1 : ¬ a ≤ 0x1FFF#16 := Nat.not_le.2 hlo
  have h2 : a ≤ 0x3FFF#16 := hhi
  simp only [Cart.writeRom, h, if_neg h1, if_pos h2, bank1_eq]

theorem Cart.writeRom_bank2 (hlo : 0x4000 ≤ a.toNat) (hhi : a.toNat ≤ 0x5FFF) :
    c.writeRom a v = { c with bank2 := BitVec.ofNat 2 v.toNat } := by
  have h1 : ¬ a ≤ 0x1FFF#16 := Nat.not_le.2 (Nat.lt_of_lt_of_le (by decide) hlo)
  have h2 : ¬ a ≤ 0x3FFF#16 := Nat.not_le.2 hlo
  have h3 : a ≤ 0x5FFF#16 := hhi
  simp only [Cart.writeRom, h, if_neg h1, if_neg h2, if_pos h3, extractLsb'_zero_eq_ofNat]

theorem Cart.writeRom_mode (hlo : 0x6000 ≤ a.toNat) :
    c.writeRom a v = { c with mode := bitOf v 0 } := by
  have h1 : ¬ a ≤ 0x1FFF#16 := Nat.not_le.2 (Nat.lt_of_lt_of_le (by decide) hlo)
  have h2 : ¬ a ≤ 0x3FFF#16 := Nat.not_le.2 (Nat.lt_of_lt_of_le (by decide) hlo)
  have h3 : ¬ a ≤ 0x5FFF#16 := Nat.not_le.2 hlo
  simp only [Cart.writeRom, h, if_neg h1, if_neg h2, if_neg h3]

end

/-- With a nonzero bank register the merged number is no multiple of 32 (R237). -/
theorem mergedBank_mod {bank1 : BitVec 5} (h : bank1 ≠ 0#5) (bank2 : BitVec 2) :
    (bank2.toNat * 32 + bank1.toNat) % 32 ≠ 0 := by
  have hlt := bank1.isLt
  have hne : bank1.toNat ≠ 0 := fun h0 => h (BitVec.eq_of_toNat_eq h0)
  omega

/-- Settles O42: one register by the address, and a zero bank number is never stored. -/
theorem mapperRegisterWrites : Obligations.MapperRegisterWrites := fun _ a v hk _ =>
  ⟨Cart.writeRom_ramEn hk v, Cart.writeRom_bank1_eq hk v, Cart.writeRom_bank2 hk v,
    Cart.writeRom_mode hk v, fun hbank =>
      have hbank' := Cart.writeRom_bank1 hbank a v
      ⟨hbank', mergedBank_mod hbank' _⟩⟩

/-! ## Accesses (R234, R236, R238, R239) -/

theorem Cart.readRom_none {c : Cart} (h : c.kind = .none) (a : Word) :
    c.readRom a = Store.read c.rom a.toNat := by
  simp only [Cart.readRom, Cart.romIndex, h]

theorem Cart.readRom_mbc1 {c : Cart} (h : c.kind = .mbc1) (a : Word) :
    c.readRom a = Store.read c.rom
      (16384 * ((if a.toNat < 0x4000 then (if c.mode = true then 32 * c.bank2.toNat else 0)
        else 32 * c.bank2.toNat + c.bank1.toNat) % c.romBanks) + a.toNat % 16384) := by
  have hlt : a < 0x4000#16 ↔ a.toNat < 0x4000 := BitVec.lt_def
  simp only [Cart.readRom, Cart.romIndex, h, Cart.romBank, hlt, toNat_and_0x3FFF, romBankBytes,
    Nat.mul_comm c.bank2.toNat 32]

/-- Present and enabled RAM is indexed by bank and offset, modulo its size. -/
theorem Cart.ramIndex_of_on {c : Cart} (hsize : c.ramSize ≠ 0)
    (hon : c.kind = .none ∨ c.ramEn = true) {a : Word} (ha : 0xA000 ≤ a.toNat) :
    c.ramIndex a = some ((8192 * (if c.kind = .mbc1 ∧ c.mode = true then c.bank2.toNat else 0) +
      (a.toNat - 0xA000)) % c.ramSize) := by
  have hoffset : (a - 0xA000#16).toNat = a.toNat - 0xA000 := BitVec.toNat_sub_of_le ha
  cases hk : c.kind with
  | none => simp [Cart.ramIndex, hsize, hk, hoffset]
  | mbc1 =>
    have hen : c.ramEn = true := hon.resolve_left (by simp [hk])
    simp [Cart.ramIndex, hsize, hk, hoffset, hen, ramBankBytes]

/-- Settles O43: each access by its index. -/
theorem mapperAccesses : Obligations.MapperAccesses := by
  intro c a v
  refine ⟨fun _ => ⟨fun hk => ?_, fun hk => Cart.readRom_mbc1 hk a⟩, fun hlo _ => ⟨fun hoff => ?_,
    fun hsize hon => ?_⟩⟩
  · exact ⟨Cart.readRom_none hk a, Cart.writeRom_none hk a v⟩
  · have hi := Cart.ramIndex_eq_none hoff a
    exact ⟨Cart.readRam_of_absent hi, Cart.writeRam_of_absent hi v⟩
  · have hi := Cart.ramIndex_of_on hsize hon hlo
    rw [Cart.readRam_of_ramIndex hi, Cart.writeRam_of_ramIndex hi]
    exact ⟨rfl, Store.read_write_self _ _ v, fun j hj => Store.read_write_ne _ v hj, rfl⟩

/-! ## The tables of `LoadROM` (R232, R233) -/

/-- Six type bytes have a kind, three of them the rotating-bank one; no other byte has. -/
theorem cartKindOf_cases (t : Byte) :
    (t ∉ [0x00#8, 0x01#8, 0x02#8, 0x03#8, 0x08#8, 0x09#8] ∧ cartKindOf t = none) ∨
      (t ∈ [0x00#8, 0x01#8, 0x02#8, 0x03#8, 0x08#8, 0x09#8] ∧ ∃ kind, cartKindOf t = some kind ∧
        (kind = .mbc1 ↔ t ∈ [0x01#8, 0x02#8, 0x03#8])) := by
  revert t
  decide

theorem ramSizeOf_eq (code : Byte) :
    ramSizeOf code =
      if code.toNat ≤ 5 then some ([0, 2048, 8192, 32768, 131072, 65536].getD code.toNat 0)
      else none := by
  revert code
  decide

/-! ## The header checksum (R231) -/

theorem take_drop_eq_map_range {image : List Byte} {n k : Nat} (h : n + k ≤ image.length) :
    (image.drop n).take k = (List.range k).map (fun i => image.getD (n + i) 0#8) := by
  refine List.ext_getElem (by simp; omega) fun i hi hi' => ?_
  have hik : i < k := by simpa using hi'
  simp [List.getD_eq_getElem?_getD, List.getElem?_eq_getElem (show n + i < image.length by omega)]

/-- Subtracting each byte and 1 subtracts the sum and the length. -/
theorem foldl_checksum (bytes : List Byte) (sum : Byte) :
    bytes.foldl (fun sum x => sum - x - 1#8) sum =
      sum + BitVec.ofInt 8 (-bytes.length - ((bytes.map BitVec.toNat).sum : Nat)) := by
  induction bytes generalizing sum with
  | nil => simp
  | cons x bytes ih =>
    have hx : BitVec.ofInt 8 (x.toNat : Int) = x := by simp
    have hone : BitVec.ofInt 8 1 = 1#8 := rfl
    have hsplit : -((x :: bytes).length : Int) - (((x :: bytes).map BitVec.toNat).sum : Nat) =
        -(x.toNat : Int) + (-1 + (-bytes.length - ((bytes.map BitVec.toNat).sum : Nat))) := by
      simp only [List.length_cons, List.map_cons, List.sum_cons]
      omega
    rw [List.foldl_cons, ih, hsplit, BitVec.ofInt_add, BitVec.ofInt_add, BitVec.ofInt_neg,
      BitVec.ofInt_neg, hx, hone]
    ring

theorem headerChecksum_eq {image : List Byte} (h : 0x134 + 25 ≤ image.length) :
    headerChecksum image = BitVec.ofInt 8
      (-25 - (((List.range 25).map (fun k => (image.getD (0x134 + k) 0#8).toNat)).sum : Int)) := by
  rw [headerChecksum, foldl_checksum, take_drop_eq_map_range h, List.map_map, List.length_map,
    List.length_range, BitVec.zero_add]
  rfl

/-! ## `LoadROM` (R229) -/

/-- The image has a legal length and codes that are in the tables. -/
def Supported (image : List Byte) : Prop :=
  image.length ≠ 0 ∧ image.length % 16384 = 0 ∧
    image.getD 0x147 0#8 ∈ [0x00#8, 0x01#8, 0x02#8, 0x03#8, 0x08#8, 0x09#8] ∧
    (image.getD 0x148 0#8).toNat ≤ 8 ∧ (image.getD 0x149 0#8).toNat ≤ 5

/-- The cartridge of a supported image with the kind of its type byte. -/
def loadedCart (image : List Byte) (kind : CartKind) : Cart :=
  { kind := kind, header := parseHeader image
    rom := Store.ofBytes 0 (image.take (romBankBytes * (2 * 2 ^ (image.getD 0x148 0#8).toNat)))
    romBanks := 2 * 2 ^ (image.getD 0x148 0#8).toNat, ram := []
    ramSize := [0, 2048, 8192, 32768, 131072, 65536].getD (image.getD 0x149 0#8).toNat 0
    bank1 := 1#5, bank2 := 0#2, ramEn := false, mode := false }

theorem cartOfImage_of_supported {image : List Byte} (h : Supported image) :
    ∃ kind, cartOfImage image = some (loadedCart image kind) ∧
      (kind = .mbc1 ↔ image.getD 0x147 0#8 ∈ [0x01#8, 0x02#8, 0x03#8]) := by
  obtain ⟨hne, hmod, htype, hrom, hram⟩ := h
  obtain ⟨hno, -⟩ | ⟨-, kind, hkind, hmbc1⟩ := cartKindOf_cases (image.getD 0x147 0#8)
  · exact absurd htype hno
  · have hlen : ¬ (image.length = 0 ∨ image.length % romBankBytes ≠ 0) := by
      simp [hne, hmod, romBankBytes]
    have hbanks : romBanksOf (image.getD 0x148 0#8) =
        some (2 * 2 ^ (image.getD 0x148 0#8).toNat) := if_pos hrom
    refine ⟨kind, ?_, hmbc1⟩
    simp only [cartOfImage, if_neg hlen, imageByte, hkind, hbanks, ramSizeOf_eq, if_pos hram,
      loadedCart]

/-- An image that loads passes the check of its length and is found in each of the tables. -/
theorem supported_of_cartOfImage {image : List Byte} {c : Cart} (h : cartOfImage image = some c) :
    Supported image := by
  unfold cartOfImage at h
  split at h
  · cases h
  next hlen =>
    obtain ⟨hne, hmod⟩ := not_or.1 hlen
    split at h
    next kind banks size hkind hbanks hsize =>
      refine ⟨hne, not_not.1 hmod, ?_, ?_, ?_⟩
      · obtain ⟨-, hnone⟩ | ⟨htype, -⟩ := cartKindOf_cases (image.getD 0x147 0#8)
        · cases hkind.symm.trans hnone
        · exact htype
      · exact (Option.ite_none_right_eq_some.1 hbanks).1
      · rw [ramSizeOf_eq] at hsize
        exact (Option.ite_none_right_eq_some.1 hsize).1
    · cases h

theorem read_loadedCart_rom (image : List Byte) (kind : CartKind) (j : Nat) :
    Store.read (loadedCart image kind).rom j =
      if j < 16384 * (loadedCart image kind).romBanks then image.getD j 0#8 else 0#8 := by
  simp only [loadedCart, Store.read_ofBytes, Nat.zero_le, if_true, Nat.sub_zero, romBankBytes,
    List.getD_eq_getElem?_getD, List.getElem?_take]
  split <;> rfl

/-- Settles O44: the two outcomes of `LoadROM`, by whether the image is supported. -/
theorem loadRomReplacesOrFails : Obligations.LoadRomReplacesOrFails := by
  intro image s
  show ((loadRom image s).1 = true ↔ Supported image) ∧ _
  by_cases h : Supported image
  · obtain ⟨kind, hcart, hmbc1⟩ := cartOfImage_of_supported h
    have hload : loadRom image s = (true, { s with
        cart := some (loadedCart image kind), overlayActive := s.launch.bootOverlay }) := by
      simp only [loadRom, hcart]
    have hlong : 0x134 + 25 ≤ image.length := by
      obtain ⟨hne, hmod, -⟩ := h
      omega
    rw [hload]
    refine ⟨iff_of_true rfl h, nofun, fun _ => ⟨loadedCart image kind, rfl, hmbc1, rfl, rfl,
      read_loadedCart_rom image kind, rfl, rfl, rfl, rfl, rfl, rfl, ?_⟩⟩
    rw [← headerChecksum_eq hlong]
    exact beq_iff_eq
  · have hload : loadRom image s = (false, s) := by
      have hcart : cartOfImage image = none :=
        Option.eq_none_iff_forall_ne_some.2 fun c hc => h (supported_of_cartOfImage hc)
      simp only [loadRom, hcart]
    rw [hload]
    exact ⟨iff_of_false nofun h, fun _ => rfl, nofun⟩

end Sys2Proof.Machine
end

section
/-! PROOFS. The CPU step, interrupt entry and the machine update (R240, R243, R244, R248 to R250,
R255, R261), and the reset procedure (R265 to R268). -/

namespace Sys2Proof.Machine

/-! ## The CPU step (R248, R249) -/

/-- Three bytes are enough for any instruction, and `fetch` reads what `decode` answers. -/
theorem fetch_of_decode {s : State} {i : Instr} {rest : List Byte}
    (h : decode [busRead s.cpu.pc s, busRead (s.cpu.pc + 1#16) s, busRead (s.cpu.pc + 2#16) s] =
      .ok (i, rest)) : fetch s = i := by
  have hlong : lengthByFirstByte (busRead s.cpu.pc s) ≤ 3 := by
    obtain h | h | h := lengthByFirstByte_cases (busRead s.cpu.pc s) <;> simp [h]
  rw [decode_of_length_le hlong] at h
  exact congrArg Prod.fst (Except.ok.inj h)

theorem wake_of_pending {s : State} (h : pendingInterrupts s ≠ 0#8) :
    wake s = s.withCpu (s.cpu.withHalted false) := if_pos h

theorem wake_of_running {s : State} (h : s.cpu.halted = false) : wake s = s := by
  unfold wake
  split
  · rw [← h]
    rfl
  · rfl

@[simp] theorem wake_ime (s : State) : (wake s).cpu.ime = s.cpu.ime := by
  unfold wake
  split <;> rfl

/-- Waking changes neither `pc` nor memory. -/
@[simp] theorem fetch_wake (s : State) : fetch (wake s) = fetch s := by
  unfold wake
  split <;> rfl

/-- An enabled pending source is dispatched, the lowest first. -/
theorem cpuStep_dispatch {s : State} (hime : s.cpu.ime = true) (hp : pendingInterrupts s ≠ 0#8) :
    cpuStep s = dispatchInterrupt (lowestInterrupt (pendingInterrupts s)) (wake s) := by
  simp [cpuStep, hime, hp]

/-- With no dispatch and the CPU awake, the instruction at `pc` runs. -/
theorem cpuStep_run {s : State} (hno : s.cpu.ime = true → pendingInterrupts s = 0#8)
    (hawake : (wake s).cpu.halted = false) : cpuStep s = exec (fetch s) (wake s) := by
  have hnot : ¬ (s.cpu.ime = true ∧ pendingInterrupts s ≠ 0#8) := fun ⟨hime, hp⟩ => hp (hno hime)
  simp only [cpuStep, wake_ime, if_neg hnot, hawake, Bool.false_eq_true, if_false, fetch_wake]

theorem lowestInterrupt_eq {pending : Byte} {i : Nat} (hi : i < 5) (hset : bitOf pending i = true)
    (hclear : ∀ j, j < i → bitOf pending j = false) : lowestInterrupt pending = i := by
  unfold lowestInterrupt
  interval_cases i <;> simp [hset, hclear]

/-- Settles O6: by `IME` and the pending sources, then by `halted`. -/
theorem cpuStepBranches : Obligations.CpuStepBranches := by
  refine ⟨rfl, fun s => ⟨fun i hi hset hclear hime => ?_, fun i rest hp hime hdecode => ?_,
    fun hp hhalted => ?_, fun i rest hp hrunning hdecode => ?_⟩⟩
  · have hp : pendingInterrupts s ≠ 0#8 := fun h0 => by
      have hset : bitOf (pendingInterrupts s) i = true := hset
      simp [h0, bitOf] at hset
    have hlowest : lowestInterrupt (pendingInterrupts s) = i := lowestInterrupt_eq hi hset hclear
    rw [cpuStep_dispatch hime hp, hlowest, wake_of_pending hp]
    rfl
  · have hwake := wake_of_pending (s := s) hp
    rw [cpuStep_run (by simp [hime]) (by rw [hwake]; rfl), fetch_of_decode hdecode, hwake]
    rfl
  · exact cpuStep_idle hhalted hp
  · have hwake := wake_of_running hrunning
    rw [cpuStep_run (fun _ => hp) (by rwa [hwake]), fetch_of_decode hdecode, hwake]

/-! ## Interrupt entry (R250) -/

/-- A push stores the same two bytes whatever else the CPU holds. -/
theorem pushes_push16_withCpu (v : Word) {s : State} {c : Cpu} (hsp : c.sp = s.cpu.sp) :
    Pushes v s (push16 v (s.withCpu c)) :=
  ⟨by simp [hsp], by simp [push16_eq, busWrite_withCpu, hsp]⟩

/-- Settles O7: the flag is cleared, then `IME`, then `PC` is pushed. -/
theorem interruptEntry : Obligations.InterruptEntry := by
  intro s i _
  have hpc : (setInterruptFlag i false s).cpu.pc = s.cpu.pc := by simp
  have hpush := pushes_push16_withCpu (setInterruptFlag i false s).cpu.pc
    (c := (setInterruptFlag i false s).cpu.withIme false) rfl
  refine ⟨_, rfl, rfl, by simp, rfl, by simp, by simp, by simp, fun r _ => by simp, ?_⟩
  rw [← hpc]
  exact hpush.retire _ _ _

/-! ## The machine update (R255) -/

/-- Settles O5: a CPU step always answers a next state, and nothing after it can stop. -/
theorem stepAlwaysAnswersNext : Obligations.StepAlwaysAnswersNext := by
  intro s
  obtain ⟨_, ⟨u, hu, -⟩, -⟩ := cpuStep_countsCycles (overlayCheck (hostActions s))
  exact ⟨advanceDevices u, by simp only [step, machineUpdate, hu]⟩

theorem Quiet.cpuStep_eq {s : State} (h : Quiet s) : cpuStep s = exec (fetch s) s := by
  have hwake := wake_of_running h.running
  rw [cpuStep_run h.noDispatch (by rw [hwake]; exact h.running), hwake]

theorem Quiet.overlayCheck_eq {s : State} (h : Quiet s) : overlayCheck s = s :=
  if_neg fun ⟨hactive, hpc⟩ => h.noOverlayEnd hactive hpc

/-- Settles O4: a quiet state passes the host's turn and the overlay check unchanged. -/
theorem stepRunsDecodedInstruction : Obligations.StepRunsDecodedInstruction := by
  refine ⟨fun s i rest hquiet hdecode => ?_, fun s => rfl⟩
  rw [step, machineUpdate, hostActions_of_none hquiet.noHostAction, hquiet.overlayCheck_eq,
    hquiet.cpuStep_eq, fetch_of_decode hdecode]
  rfl

/-! ## Reset (R266 to R268) -/

theorem hostReset_of_no_overlay {s : State} (h : s.launch.bootOverlay = false) :
    hostReset s =
      { cpu := s.params.resetRegs.cpu
        mem := s.launch.initMem, vram := s.launch.initVram, oam := s.launch.initOam
        timer := { divAcc := 0, timaAcc := 0 }, ppu := Ppu.reset
        cart := s.cart.map Cart.resetRegisters, overlayActive := false
        held := Held.none, serialOut := [], launch := s.launch } := by
  simp only [hostReset, h, Bool.false_eq_true, if_false, Bool.false_and]

/-- Settles O56: every component by the closed form of `Reset()`. -/
theorem resetProcedure : Obligations.ResetProcedure := by
  intro s h
  rw [hostReset_of_no_overlay h]
  refine ⟨rfl, rfl, rfl, rfl, rfl, rfl, rfl, rfl, rfl, rfl, rfl, rfl, rfl, rfl, rfl, rfl, rfl, rfl,
    rfl, rfl, rfl, rfl, rfl, rfl, rfl, rfl, rfl, rfl, rfl, rfl, rfl, rfl, rfl, fun btn => ?_, rfl,
    rfl, rfl, fun hc => ?_, fun c hc => ?_, rfl⟩
  · cases btn <;> rfl
  · exact congrArg (Option.map Cart.resetRegisters) hc
  · exact congrArg (Option.map Cart.resetRegisters) hc

/-! ## The invariants at reset (R8, R31, R266) -/

theorem reset_memoryInv : MemoryInv State.reset where
  mem := Store.nil_wf
  memRange := nofun
  vram := Store.nil_wf
  vramRange := Store.nil_below _
  oam := Store.nil_wf
  oamRange := Store.nil_below _
  frame := Store.nil_wf
  frameRange := Store.nil_below _
  rom := nofun
  ram := nofun
  initMem := Store.nil_wf
  initMemRange := nofun
  initVram := ⟨Store.nil_wf, Store.nil_below _⟩
  initOam := ⟨Store.nil_wf, Store.nil_below _⟩

theorem reset_mapperInv : MapperInv State.reset := ⟨nofun, nofun, nofun, nofun⟩

theorem reset_timerInv : TimerInv State.reset := ⟨by decide, by decide⟩

theorem Params.default_cycles : Params.default.DefaultCycles := ⟨⟨rfl, rfl⟩, rfl, rfl, rfl⟩

theorem Vectors.default_of :
    ∀ i, i < 5 → Vectors.default.of i = BitVec.ofNat 16 (0x0040 + 8 * i) := by decide

/-- Settles O60: the invariants of `State.reset`, and its parameters, which are the defaults. -/
theorem invariantsAtReset : Obligations.InvariantsAtReset :=
  ⟨reset_memoryInv, ⟨by decide, by decide⟩, reset_mapperInv, reset_timerInv, reset_ppuInv,
    ⟨rfl, rfl, rfl⟩, Params.default_valid, Params.default_cycles, rfl, rfl, rfl, rfl, rfl, rfl, rfl,
    rfl, Vectors.default_of, rfl, rfl, rfl, rfl, rfl, rfl, rfl, rfl, rfl, rfl, rfl, rfl, rfl, rfl,
    rfl, rfl, rfl, rfl, rfl, rfl, rfl⟩

end Sys2Proof.Machine
end
